-- ==== Sys2Proof/Word.lean ====
section
/-! DEFINITION. The machine's words (00_scope.md R7: 8-bit data, 16-bit addresses and pairs). -/

namespace Sys2Proof

/-- One byte: the data width (R7). -/
abbrev Byte := BitVec 8

/-- One 16-bit quantity: an address, a register pair, SP or pc (R7). -/
abbrev Word := BitVec 16

end Sys2Proof
end

