-- ==== Sys2Proof/Syntax.lean ====
section
/-! DEFINITION. The instructions: one constructor of `Instr` per row of spec/opcode_table.json, and `Form`,
the instruction rule and operands each row stands for (30_encoding.md R133, R135 to R140). -/

namespace Sys2Proof

/-- The register operands of `r8` (30_encoding.md R133). The code 6, `(HL)`, is never a register:
its instructions are separate rules and separate forms below. -/
inductive R8 where
  | b | c | d | e | h | l | a
  deriving DecidableEq, Repr

/-- The pairs of `r16` (R133). -/
inductive R16 where
  | bc | de | hl | sp
  deriving DecidableEq, Repr

/-- The pairs of `r16stk` (R133). -/
inductive R16Stk where
  | bc | de | hl | af
  deriving DecidableEq, Repr

/-- The pointer pairs of `LD A,(BC)`, `LD A,(DE)`, `LD (BC),A`, `LD (DE),A` (40_load.md R165 to R168). -/
inductive Ptr where
  | bc | de
  deriving DecidableEq, Repr

/-- The conditions of `cc` (R133). -/
inductive Cond where
  | nz | z | nc | c
  deriving DecidableEq, Repr

/-- The 8-bit operations of `alu` (R133). -/
inductive Alu where
  | add | adc | sub | sbc | and | xor | or | cp
  deriving DecidableEq, Repr

/-- The operations of `rot` (R133). -/
inductive Rot where
  | rlc | rrc | rl | rr | sla | sra | swap | srl
  deriving DecidableEq, Repr

/-- The accumulator rotates of the plain page (43_rotate_shift_bit.md R270 to R273). -/
inductive AccRot where
  | rlca | rrca | rla | rra
  deriving DecidableEq, Repr

/-- The instruction rules with their operands. -/
inductive Form where
  | ldRegReg (dst src : R8)             -- R160
  | ldRegImm (dst : R8) (n : Byte)    -- R161
  | ldRegMem (dst : R8)               -- R162
  | ldMemReg (src : R8)               -- R163
  | ldMemImm (n : Byte)             -- R164
  | ldAPtr (p : Ptr)                -- R165, R166
  | ldPtrA (p : Ptr)                -- R167, R168
  | ldAAbs (nn : Word)              -- R169
  | ldAbsA (nn : Word)              -- R170
  | ldhAC                           -- R171
  | ldhCA                           -- R172
  | ldhAImm (n : Byte)              -- R173
  | ldhImmA (n : Byte)              -- R174
  | ldAHlInc                        -- R175
  | ldAHlDec                        -- R176
  | ldHlIncA                        -- R177
  | ldHlDecA                        -- R178
  | ldPairImm (rr : R16) (nn : Word) -- R179
  | ldAbsSp (nn : Word)             -- R180
  | ldSpHl                          -- R181
  | push (rr : R16Stk)              -- R182
  | pop (rr : R16Stk)               -- R183
  | aluReg (op : Alu) (src : R8)    -- R203, R206, R209, R212, R215, R218, R221, R224
  | aluMem (op : Alu)               -- R204, R207, R210, R213, R216, R219, R222, R225
  | aluImm (op : Alu) (n : Byte)    -- R205, R208, R211, R214, R217, R220, R223, R226
  | incReg (dst : R8)                 -- R227
  | incMem                          -- R228
  | decReg (dst : R8)                 -- R229
  | decMem                          -- R230
  | daa                             -- R231
  | cpl                             -- R232
  | scf                             -- R233
  | ccf                             -- R234
  | incPair (rr : R16)              -- R250
  | decPair (rr : R16)              -- R251
  | addHl (rr : R16)                -- R252
  | addSp (e : Byte)                -- R253
  | ldHlSp (e : Byte)               -- R254
  | rotA (k : AccRot)               -- R270 to R273
  | rotReg (k : Rot) (r : R8)       -- R275, R277, R279, R281, R283, R285, R287, R289
  | rotMem (k : Rot)                -- R276, R278, R280, R282, R284, R286, R288, R290
  | bitReg (b : BitVec 3) (r : R8)  -- R291
  | bitMem (b : BitVec 3)           -- R292
  | resReg (b : BitVec 3) (r : R8)  -- R293
  | resMem (b : BitVec 3)           -- R294
  | setReg (b : BitVec 3) (r : R8)  -- R295
  | setMem (b : BitVec 3)           -- R296
  | jp (nn : Word)                  -- R311
  | jpCc (cc : Cond) (nn : Word)    -- R312
  | jpHl                            -- R313
  | jr (e : Byte)                   -- R314
  | jrCc (cc : Cond) (e : Byte)     -- R315
  | call (nn : Word)                -- R316
  | callCc (cc : Cond) (nn : Word)  -- R317
  | ret                             -- R318
  | retCc (cc : Cond)               -- R319
  | reti                            -- R320
  | rst (t : BitVec 3)              -- R321
  | nop                             -- R340
  | stop (n : Byte)                 -- R341
  | halt                            -- R342
  | di                              -- R343
  | ei                              -- R344
  | illegal (op : Byte)             -- R345
  | cbPage                          -- the bare byte 0xCB, R139
  deriving DecidableEq, Repr

/-- The instructions, one constructor per row of spec/opcode_table.json, those with an immediate first
(Lean's runtime wants them so), each group in the table's order. An immediate is an argument: `n` for n8 and a8, `e` for e8, `nn` for n16 and a16. -/
inductive Instr where
  | ldBcN16 (nn : Word)
  | ldBN8 (n : Byte)
  | ldMemA16Sp (nn : Word)
  | ldCN8 (n : Byte)
  | stop (n : Byte)
  | ldDeN16 (nn : Word)
  | ldDN8 (n : Byte)
  | jrE8 (e : Byte)
  | ldEN8 (n : Byte)
  | jrNzE8 (e : Byte)
  | ldHlN16 (nn : Word)
  | ldHN8 (n : Byte)
  | jrZE8 (e : Byte)
  | ldLN8 (n : Byte)
  | jrNcE8 (e : Byte)
  | ldSpN16 (nn : Word)
  | ldMemHlN8 (n : Byte)
  | jrCE8 (e : Byte)
  | ldAN8 (n : Byte)
  | jpNzA16 (nn : Word)
  | jpA16 (nn : Word)
  | callNzA16 (nn : Word)
  | addAN8 (n : Byte)
  | jpZA16 (nn : Word)
  | callZA16 (nn : Word)
  | callA16 (nn : Word)
  | adcAN8 (n : Byte)
  | jpNcA16 (nn : Word)
  | callNcA16 (nn : Word)
  | subAN8 (n : Byte)
  | jpCA16 (nn : Word)
  | callCA16 (nn : Word)
  | sbcAN8 (n : Byte)
  | ldhMemA8A (n : Byte)
  | andAN8 (n : Byte)
  | addSpE8 (e : Byte)
  | ldMemA16A (nn : Word)
  | xorAN8 (n : Byte)
  | ldhAMemA8 (n : Byte)
  | orAN8 (n : Byte)
  | ldHlSpE8 (e : Byte)
  | ldAMemA16 (nn : Word)
  | cpAN8 (n : Byte)
  | nop
  | ldMemBcA
  | incBc
  | incB
  | decB
  | rlca
  | addHlBc
  | ldAMemBc
  | decBc
  | incC
  | decC
  | rrca
  | ldMemDeA
  | incDe
  | incD
  | decD
  | rla
  | addHlDe
  | ldAMemDe
  | decDe
  | incE
  | decE
  | rra
  | ldMemHlIncA
  | incHl
  | incH
  | decH
  | daa
  | addHlHl
  | ldAMemHlInc
  | decHl
  | incL
  | decL
  | cpl
  | ldMemHlDecA
  | incSp
  | incMemHl
  | decMemHl
  | scf
  | addHlSp
  | ldAMemHlDec
  | decSp
  | incA
  | decA
  | ccf
  | ldBB
  | ldBC
  | ldBD
  | ldBE
  | ldBH
  | ldBL
  | ldBMemHl
  | ldBA
  | ldCB
  | ldCC
  | ldCD
  | ldCE
  | ldCH
  | ldCL
  | ldCMemHl
  | ldCA
  | ldDB
  | ldDC
  | ldDD
  | ldDE
  | ldDH
  | ldDL
  | ldDMemHl
  | ldDA
  | ldEB
  | ldEC
  | ldED
  | ldEE
  | ldEH
  | ldEL
  | ldEMemHl
  | ldEA
  | ldHB
  | ldHC
  | ldHD
  | ldHE
  | ldHH
  | ldHL
  | ldHMemHl
  | ldHA
  | ldLB
  | ldLC
  | ldLD
  | ldLE
  | ldLH
  | ldLL
  | ldLMemHl
  | ldLA
  | ldMemHlB
  | ldMemHlC
  | ldMemHlD
  | ldMemHlE
  | ldMemHlH
  | ldMemHlL
  | halt
  | ldMemHlA
  | ldAB
  | ldAC
  | ldAD
  | ldAE
  | ldAH
  | ldAL
  | ldAMemHl
  | ldAA
  | addAB
  | addAC
  | addAD
  | addAE
  | addAH
  | addAL
  | addAMemHl
  | addAA
  | adcAB
  | adcAC
  | adcAD
  | adcAE
  | adcAH
  | adcAL
  | adcAMemHl
  | adcAA
  | subAB
  | subAC
  | subAD
  | subAE
  | subAH
  | subAL
  | subAMemHl
  | subAA
  | sbcAB
  | sbcAC
  | sbcAD
  | sbcAE
  | sbcAH
  | sbcAL
  | sbcAMemHl
  | sbcAA
  | andAB
  | andAC
  | andAD
  | andAE
  | andAH
  | andAL
  | andAMemHl
  | andAA
  | xorAB
  | xorAC
  | xorAD
  | xorAE
  | xorAH
  | xorAL
  | xorAMemHl
  | xorAA
  | orAB
  | orAC
  | orAD
  | orAE
  | orAH
  | orAL
  | orAMemHl
  | orAA
  | cpAB
  | cpAC
  | cpAD
  | cpAE
  | cpAH
  | cpAL
  | cpAMemHl
  | cpAA
  | retNz
  | popBc
  | pushBc
  | rst00
  | retZ
  | ret
  | rst08
  | retNc
  | popDe
  | illegalD3
  | pushDe
  | rst10
  | retC
  | reti
  | illegalDB
  | illegalDD
  | rst18
  | popHl
  | ldhMemCA
  | illegalE3
  | illegalE4
  | pushHl
  | rst20
  | jpHl
  | illegalEB
  | illegalEC
  | illegalED
  | rst28
  | popAf
  | ldhAMemC
  | di
  | illegalF4
  | pushAf
  | rst30
  | ldSpHl
  | ei
  | illegalFC
  | illegalFD
  | rst38
  | rlcB
  | rlcC
  | rlcD
  | rlcE
  | rlcH
  | rlcL
  | rlcMemHl
  | rlcA
  | rrcB
  | rrcC
  | rrcD
  | rrcE
  | rrcH
  | rrcL
  | rrcMemHl
  | rrcA
  | rlB
  | rlC
  | rlD
  | rlE
  | rlH
  | rlL
  | rlMemHl
  | rlA
  | rrB
  | rrC
  | rrD
  | rrE
  | rrH
  | rrL
  | rrMemHl
  | rrA
  | slaB
  | slaC
  | slaD
  | slaE
  | slaH
  | slaL
  | slaMemHl
  | slaA
  | sraB
  | sraC
  | sraD
  | sraE
  | sraH
  | sraL
  | sraMemHl
  | sraA
  | swapB
  | swapC
  | swapD
  | swapE
  | swapH
  | swapL
  | swapMemHl
  | swapA
  | srlB
  | srlC
  | srlD
  | srlE
  | srlH
  | srlL
  | srlMemHl
  | srlA
  | bit0B
  | bit0C
  | bit0D
  | bit0E
  | bit0H
  | bit0L
  | bit0MemHl
  | bit0A
  | bit1B
  | bit1C
  | bit1D
  | bit1E
  | bit1H
  | bit1L
  | bit1MemHl
  | bit1A
  | bit2B
  | bit2C
  | bit2D
  | bit2E
  | bit2H
  | bit2L
  | bit2MemHl
  | bit2A
  | bit3B
  | bit3C
  | bit3D
  | bit3E
  | bit3H
  | bit3L
  | bit3MemHl
  | bit3A
  | bit4B
  | bit4C
  | bit4D
  | bit4E
  | bit4H
  | bit4L
  | bit4MemHl
  | bit4A
  | bit5B
  | bit5C
  | bit5D
  | bit5E
  | bit5H
  | bit5L
  | bit5MemHl
  | bit5A
  | bit6B
  | bit6C
  | bit6D
  | bit6E
  | bit6H
  | bit6L
  | bit6MemHl
  | bit6A
  | bit7B
  | bit7C
  | bit7D
  | bit7E
  | bit7H
  | bit7L
  | bit7MemHl
  | bit7A
  | res0B
  | res0C
  | res0D
  | res0E
  | res0H
  | res0L
  | res0MemHl
  | res0A
  | res1B
  | res1C
  | res1D
  | res1E
  | res1H
  | res1L
  | res1MemHl
  | res1A
  | res2B
  | res2C
  | res2D
  | res2E
  | res2H
  | res2L
  | res2MemHl
  | res2A
  | res3B
  | res3C
  | res3D
  | res3E
  | res3H
  | res3L
  | res3MemHl
  | res3A
  | res4B
  | res4C
  | res4D
  | res4E
  | res4H
  | res4L
  | res4MemHl
  | res4A
  | res5B
  | res5C
  | res5D
  | res5E
  | res5H
  | res5L
  | res5MemHl
  | res5A
  | res6B
  | res6C
  | res6D
  | res6E
  | res6H
  | res6L
  | res6MemHl
  | res6A
  | res7B
  | res7C
  | res7D
  | res7E
  | res7H
  | res7L
  | res7MemHl
  | res7A
  | set0B
  | set0C
  | set0D
  | set0E
  | set0H
  | set0L
  | set0MemHl
  | set0A
  | set1B
  | set1C
  | set1D
  | set1E
  | set1H
  | set1L
  | set1MemHl
  | set1A
  | set2B
  | set2C
  | set2D
  | set2E
  | set2H
  | set2L
  | set2MemHl
  | set2A
  | set3B
  | set3C
  | set3D
  | set3E
  | set3H
  | set3L
  | set3MemHl
  | set3A
  | set4B
  | set4C
  | set4D
  | set4E
  | set4H
  | set4L
  | set4MemHl
  | set4A
  | set5B
  | set5C
  | set5D
  | set5E
  | set5H
  | set5L
  | set5MemHl
  | set5A
  | set6B
  | set6C
  | set6D
  | set6E
  | set6H
  | set6L
  | set6MemHl
  | set6A
  | set7B
  | set7C
  | set7D
  | set7E
  | set7H
  | set7L
  | set7MemHl
  | set7A
  | prefixCb
  deriving DecidableEq, Repr

/-- The instruction rule and operands of each row (the table's columns "rule" and "fields"). -/
def Instr.form : Instr → Form
  | .nop => .nop
  | .ldBcN16 nn => .ldPairImm .bc nn
  | .ldMemBcA => .ldPtrA .bc
  | .incBc => .incPair .bc
  | .incB => .incReg .b
  | .decB => .decReg .b
  | .ldBN8 n => .ldRegImm .b n
  | .rlca => .rotA .rlca
  | .ldMemA16Sp nn => .ldAbsSp nn
  | .addHlBc => .addHl .bc
  | .ldAMemBc => .ldAPtr .bc
  | .decBc => .decPair .bc
  | .incC => .incReg .c
  | .decC => .decReg .c
  | .ldCN8 n => .ldRegImm .c n
  | .rrca => .rotA .rrca
  | .stop n => .stop n
  | .ldDeN16 nn => .ldPairImm .de nn
  | .ldMemDeA => .ldPtrA .de
  | .incDe => .incPair .de
  | .incD => .incReg .d
  | .decD => .decReg .d
  | .ldDN8 n => .ldRegImm .d n
  | .rla => .rotA .rla
  | .jrE8 e => .jr e
  | .addHlDe => .addHl .de
  | .ldAMemDe => .ldAPtr .de
  | .decDe => .decPair .de
  | .incE => .incReg .e
  | .decE => .decReg .e
  | .ldEN8 n => .ldRegImm .e n
  | .rra => .rotA .rra
  | .jrNzE8 e => .jrCc .nz e
  | .ldHlN16 nn => .ldPairImm .hl nn
  | .ldMemHlIncA => .ldHlIncA
  | .incHl => .incPair .hl
  | .incH => .incReg .h
  | .decH => .decReg .h
  | .ldHN8 n => .ldRegImm .h n
  | .daa => .daa
  | .jrZE8 e => .jrCc .z e
  | .addHlHl => .addHl .hl
  | .ldAMemHlInc => .ldAHlInc
  | .decHl => .decPair .hl
  | .incL => .incReg .l
  | .decL => .decReg .l
  | .ldLN8 n => .ldRegImm .l n
  | .cpl => .cpl
  | .jrNcE8 e => .jrCc .nc e
  | .ldSpN16 nn => .ldPairImm .sp nn
  | .ldMemHlDecA => .ldHlDecA
  | .incSp => .incPair .sp
  | .incMemHl => .incMem
  | .decMemHl => .decMem
  | .ldMemHlN8 n => .ldMemImm n
  | .scf => .scf
  | .jrCE8 e => .jrCc .c e
  | .addHlSp => .addHl .sp
  | .ldAMemHlDec => .ldAHlDec
  | .decSp => .decPair .sp
  | .incA => .incReg .a
  | .decA => .decReg .a
  | .ldAN8 n => .ldRegImm .a n
  | .ccf => .ccf
  | .ldBB => .ldRegReg .b .b
  | .ldBC => .ldRegReg .b .c
  | .ldBD => .ldRegReg .b .d
  | .ldBE => .ldRegReg .b .e
  | .ldBH => .ldRegReg .b .h
  | .ldBL => .ldRegReg .b .l
  | .ldBMemHl => .ldRegMem .b
  | .ldBA => .ldRegReg .b .a
  | .ldCB => .ldRegReg .c .b
  | .ldCC => .ldRegReg .c .c
  | .ldCD => .ldRegReg .c .d
  | .ldCE => .ldRegReg .c .e
  | .ldCH => .ldRegReg .c .h
  | .ldCL => .ldRegReg .c .l
  | .ldCMemHl => .ldRegMem .c
  | .ldCA => .ldRegReg .c .a
  | .ldDB => .ldRegReg .d .b
  | .ldDC => .ldRegReg .d .c
  | .ldDD => .ldRegReg .d .d
  | .ldDE => .ldRegReg .d .e
  | .ldDH => .ldRegReg .d .h
  | .ldDL => .ldRegReg .d .l
  | .ldDMemHl => .ldRegMem .d
  | .ldDA => .ldRegReg .d .a
  | .ldEB => .ldRegReg .e .b
  | .ldEC => .ldRegReg .e .c
  | .ldED => .ldRegReg .e .d
  | .ldEE => .ldRegReg .e .e
  | .ldEH => .ldRegReg .e .h
  | .ldEL => .ldRegReg .e .l
  | .ldEMemHl => .ldRegMem .e
  | .ldEA => .ldRegReg .e .a
  | .ldHB => .ldRegReg .h .b
  | .ldHC => .ldRegReg .h .c
  | .ldHD => .ldRegReg .h .d
  | .ldHE => .ldRegReg .h .e
  | .ldHH => .ldRegReg .h .h
  | .ldHL => .ldRegReg .h .l
  | .ldHMemHl => .ldRegMem .h
  | .ldHA => .ldRegReg .h .a
  | .ldLB => .ldRegReg .l .b
  | .ldLC => .ldRegReg .l .c
  | .ldLD => .ldRegReg .l .d
  | .ldLE => .ldRegReg .l .e
  | .ldLH => .ldRegReg .l .h
  | .ldLL => .ldRegReg .l .l
  | .ldLMemHl => .ldRegMem .l
  | .ldLA => .ldRegReg .l .a
  | .ldMemHlB => .ldMemReg .b
  | .ldMemHlC => .ldMemReg .c
  | .ldMemHlD => .ldMemReg .d
  | .ldMemHlE => .ldMemReg .e
  | .ldMemHlH => .ldMemReg .h
  | .ldMemHlL => .ldMemReg .l
  | .halt => .halt
  | .ldMemHlA => .ldMemReg .a
  | .ldAB => .ldRegReg .a .b
  | .ldAC => .ldRegReg .a .c
  | .ldAD => .ldRegReg .a .d
  | .ldAE => .ldRegReg .a .e
  | .ldAH => .ldRegReg .a .h
  | .ldAL => .ldRegReg .a .l
  | .ldAMemHl => .ldRegMem .a
  | .ldAA => .ldRegReg .a .a
  | .addAB => .aluReg .add .b
  | .addAC => .aluReg .add .c
  | .addAD => .aluReg .add .d
  | .addAE => .aluReg .add .e
  | .addAH => .aluReg .add .h
  | .addAL => .aluReg .add .l
  | .addAMemHl => .aluMem .add
  | .addAA => .aluReg .add .a
  | .adcAB => .aluReg .adc .b
  | .adcAC => .aluReg .adc .c
  | .adcAD => .aluReg .adc .d
  | .adcAE => .aluReg .adc .e
  | .adcAH => .aluReg .adc .h
  | .adcAL => .aluReg .adc .l
  | .adcAMemHl => .aluMem .adc
  | .adcAA => .aluReg .adc .a
  | .subAB => .aluReg .sub .b
  | .subAC => .aluReg .sub .c
  | .subAD => .aluReg .sub .d
  | .subAE => .aluReg .sub .e
  | .subAH => .aluReg .sub .h
  | .subAL => .aluReg .sub .l
  | .subAMemHl => .aluMem .sub
  | .subAA => .aluReg .sub .a
  | .sbcAB => .aluReg .sbc .b
  | .sbcAC => .aluReg .sbc .c
  | .sbcAD => .aluReg .sbc .d
  | .sbcAE => .aluReg .sbc .e
  | .sbcAH => .aluReg .sbc .h
  | .sbcAL => .aluReg .sbc .l
  | .sbcAMemHl => .aluMem .sbc
  | .sbcAA => .aluReg .sbc .a
  | .andAB => .aluReg .and .b
  | .andAC => .aluReg .and .c
  | .andAD => .aluReg .and .d
  | .andAE => .aluReg .and .e
  | .andAH => .aluReg .and .h
  | .andAL => .aluReg .and .l
  | .andAMemHl => .aluMem .and
  | .andAA => .aluReg .and .a
  | .xorAB => .aluReg .xor .b
  | .xorAC => .aluReg .xor .c
  | .xorAD => .aluReg .xor .d
  | .xorAE => .aluReg .xor .e
  | .xorAH => .aluReg .xor .h
  | .xorAL => .aluReg .xor .l
  | .xorAMemHl => .aluMem .xor
  | .xorAA => .aluReg .xor .a
  | .orAB => .aluReg .or .b
  | .orAC => .aluReg .or .c
  | .orAD => .aluReg .or .d
  | .orAE => .aluReg .or .e
  | .orAH => .aluReg .or .h
  | .orAL => .aluReg .or .l
  | .orAMemHl => .aluMem .or
  | .orAA => .aluReg .or .a
  | .cpAB => .aluReg .cp .b
  | .cpAC => .aluReg .cp .c
  | .cpAD => .aluReg .cp .d
  | .cpAE => .aluReg .cp .e
  | .cpAH => .aluReg .cp .h
  | .cpAL => .aluReg .cp .l
  | .cpAMemHl => .aluMem .cp
  | .cpAA => .aluReg .cp .a
  | .retNz => .retCc .nz
  | .popBc => .pop .bc
  | .jpNzA16 nn => .jpCc .nz nn
  | .jpA16 nn => .jp nn
  | .callNzA16 nn => .callCc .nz nn
  | .pushBc => .push .bc
  | .addAN8 n => .aluImm .add n
  | .rst00 => .rst 0
  | .retZ => .retCc .z
  | .ret => .ret
  | .jpZA16 nn => .jpCc .z nn
  | .callZA16 nn => .callCc .z nn
  | .callA16 nn => .call nn
  | .adcAN8 n => .aluImm .adc n
  | .rst08 => .rst 1
  | .retNc => .retCc .nc
  | .popDe => .pop .de
  | .jpNcA16 nn => .jpCc .nc nn
  | .illegalD3 => .illegal 0xD3
  | .callNcA16 nn => .callCc .nc nn
  | .pushDe => .push .de
  | .subAN8 n => .aluImm .sub n
  | .rst10 => .rst 2
  | .retC => .retCc .c
  | .reti => .reti
  | .jpCA16 nn => .jpCc .c nn
  | .illegalDB => .illegal 0xDB
  | .callCA16 nn => .callCc .c nn
  | .illegalDD => .illegal 0xDD
  | .sbcAN8 n => .aluImm .sbc n
  | .rst18 => .rst 3
  | .ldhMemA8A n => .ldhImmA n
  | .popHl => .pop .hl
  | .ldhMemCA => .ldhCA
  | .illegalE3 => .illegal 0xE3
  | .illegalE4 => .illegal 0xE4
  | .pushHl => .push .hl
  | .andAN8 n => .aluImm .and n
  | .rst20 => .rst 4
  | .addSpE8 e => .addSp e
  | .jpHl => .jpHl
  | .ldMemA16A nn => .ldAbsA nn
  | .illegalEB => .illegal 0xEB
  | .illegalEC => .illegal 0xEC
  | .illegalED => .illegal 0xED
  | .xorAN8 n => .aluImm .xor n
  | .rst28 => .rst 5
  | .ldhAMemA8 n => .ldhAImm n
  | .popAf => .pop .af
  | .ldhAMemC => .ldhAC
  | .di => .di
  | .illegalF4 => .illegal 0xF4
  | .pushAf => .push .af
  | .orAN8 n => .aluImm .or n
  | .rst30 => .rst 6
  | .ldHlSpE8 e => .ldHlSp e
  | .ldSpHl => .ldSpHl
  | .ldAMemA16 nn => .ldAAbs nn
  | .ei => .ei
  | .illegalFC => .illegal 0xFC
  | .illegalFD => .illegal 0xFD
  | .cpAN8 n => .aluImm .cp n
  | .rst38 => .rst 7
  | .rlcB => .rotReg .rlc .b
  | .rlcC => .rotReg .rlc .c
  | .rlcD => .rotReg .rlc .d
  | .rlcE => .rotReg .rlc .e
  | .rlcH => .rotReg .rlc .h
  | .rlcL => .rotReg .rlc .l
  | .rlcMemHl => .rotMem .rlc
  | .rlcA => .rotReg .rlc .a
  | .rrcB => .rotReg .rrc .b
  | .rrcC => .rotReg .rrc .c
  | .rrcD => .rotReg .rrc .d
  | .rrcE => .rotReg .rrc .e
  | .rrcH => .rotReg .rrc .h
  | .rrcL => .rotReg .rrc .l
  | .rrcMemHl => .rotMem .rrc
  | .rrcA => .rotReg .rrc .a
  | .rlB => .rotReg .rl .b
  | .rlC => .rotReg .rl .c
  | .rlD => .rotReg .rl .d
  | .rlE => .rotReg .rl .e
  | .rlH => .rotReg .rl .h
  | .rlL => .rotReg .rl .l
  | .rlMemHl => .rotMem .rl
  | .rlA => .rotReg .rl .a
  | .rrB => .rotReg .rr .b
  | .rrC => .rotReg .rr .c
  | .rrD => .rotReg .rr .d
  | .rrE => .rotReg .rr .e
  | .rrH => .rotReg .rr .h
  | .rrL => .rotReg .rr .l
  | .rrMemHl => .rotMem .rr
  | .rrA => .rotReg .rr .a
  | .slaB => .rotReg .sla .b
  | .slaC => .rotReg .sla .c
  | .slaD => .rotReg .sla .d
  | .slaE => .rotReg .sla .e
  | .slaH => .rotReg .sla .h
  | .slaL => .rotReg .sla .l
  | .slaMemHl => .rotMem .sla
  | .slaA => .rotReg .sla .a
  | .sraB => .rotReg .sra .b
  | .sraC => .rotReg .sra .c
  | .sraD => .rotReg .sra .d
  | .sraE => .rotReg .sra .e
  | .sraH => .rotReg .sra .h
  | .sraL => .rotReg .sra .l
  | .sraMemHl => .rotMem .sra
  | .sraA => .rotReg .sra .a
  | .swapB => .rotReg .swap .b
  | .swapC => .rotReg .swap .c
  | .swapD => .rotReg .swap .d
  | .swapE => .rotReg .swap .e
  | .swapH => .rotReg .swap .h
  | .swapL => .rotReg .swap .l
  | .swapMemHl => .rotMem .swap
  | .swapA => .rotReg .swap .a
  | .srlB => .rotReg .srl .b
  | .srlC => .rotReg .srl .c
  | .srlD => .rotReg .srl .d
  | .srlE => .rotReg .srl .e
  | .srlH => .rotReg .srl .h
  | .srlL => .rotReg .srl .l
  | .srlMemHl => .rotMem .srl
  | .srlA => .rotReg .srl .a
  | .bit0B => .bitReg 0 .b
  | .bit0C => .bitReg 0 .c
  | .bit0D => .bitReg 0 .d
  | .bit0E => .bitReg 0 .e
  | .bit0H => .bitReg 0 .h
  | .bit0L => .bitReg 0 .l
  | .bit0MemHl => .bitMem 0
  | .bit0A => .bitReg 0 .a
  | .bit1B => .bitReg 1 .b
  | .bit1C => .bitReg 1 .c
  | .bit1D => .bitReg 1 .d
  | .bit1E => .bitReg 1 .e
  | .bit1H => .bitReg 1 .h
  | .bit1L => .bitReg 1 .l
  | .bit1MemHl => .bitMem 1
  | .bit1A => .bitReg 1 .a
  | .bit2B => .bitReg 2 .b
  | .bit2C => .bitReg 2 .c
  | .bit2D => .bitReg 2 .d
  | .bit2E => .bitReg 2 .e
  | .bit2H => .bitReg 2 .h
  | .bit2L => .bitReg 2 .l
  | .bit2MemHl => .bitMem 2
  | .bit2A => .bitReg 2 .a
  | .bit3B => .bitReg 3 .b
  | .bit3C => .bitReg 3 .c
  | .bit3D => .bitReg 3 .d
  | .bit3E => .bitReg 3 .e
  | .bit3H => .bitReg 3 .h
  | .bit3L => .bitReg 3 .l
  | .bit3MemHl => .bitMem 3
  | .bit3A => .bitReg 3 .a
  | .bit4B => .bitReg 4 .b
  | .bit4C => .bitReg 4 .c
  | .bit4D => .bitReg 4 .d
  | .bit4E => .bitReg 4 .e
  | .bit4H => .bitReg 4 .h
  | .bit4L => .bitReg 4 .l
  | .bit4MemHl => .bitMem 4
  | .bit4A => .bitReg 4 .a
  | .bit5B => .bitReg 5 .b
  | .bit5C => .bitReg 5 .c
  | .bit5D => .bitReg 5 .d
  | .bit5E => .bitReg 5 .e
  | .bit5H => .bitReg 5 .h
  | .bit5L => .bitReg 5 .l
  | .bit5MemHl => .bitMem 5
  | .bit5A => .bitReg 5 .a
  | .bit6B => .bitReg 6 .b
  | .bit6C => .bitReg 6 .c
  | .bit6D => .bitReg 6 .d
  | .bit6E => .bitReg 6 .e
  | .bit6H => .bitReg 6 .h
  | .bit6L => .bitReg 6 .l
  | .bit6MemHl => .bitMem 6
  | .bit6A => .bitReg 6 .a
  | .bit7B => .bitReg 7 .b
  | .bit7C => .bitReg 7 .c
  | .bit7D => .bitReg 7 .d
  | .bit7E => .bitReg 7 .e
  | .bit7H => .bitReg 7 .h
  | .bit7L => .bitReg 7 .l
  | .bit7MemHl => .bitMem 7
  | .bit7A => .bitReg 7 .a
  | .res0B => .resReg 0 .b
  | .res0C => .resReg 0 .c
  | .res0D => .resReg 0 .d
  | .res0E => .resReg 0 .e
  | .res0H => .resReg 0 .h
  | .res0L => .resReg 0 .l
  | .res0MemHl => .resMem 0
  | .res0A => .resReg 0 .a
  | .res1B => .resReg 1 .b
  | .res1C => .resReg 1 .c
  | .res1D => .resReg 1 .d
  | .res1E => .resReg 1 .e
  | .res1H => .resReg 1 .h
  | .res1L => .resReg 1 .l
  | .res1MemHl => .resMem 1
  | .res1A => .resReg 1 .a
  | .res2B => .resReg 2 .b
  | .res2C => .resReg 2 .c
  | .res2D => .resReg 2 .d
  | .res2E => .resReg 2 .e
  | .res2H => .resReg 2 .h
  | .res2L => .resReg 2 .l
  | .res2MemHl => .resMem 2
  | .res2A => .resReg 2 .a
  | .res3B => .resReg 3 .b
  | .res3C => .resReg 3 .c
  | .res3D => .resReg 3 .d
  | .res3E => .resReg 3 .e
  | .res3H => .resReg 3 .h
  | .res3L => .resReg 3 .l
  | .res3MemHl => .resMem 3
  | .res3A => .resReg 3 .a
  | .res4B => .resReg 4 .b
  | .res4C => .resReg 4 .c
  | .res4D => .resReg 4 .d
  | .res4E => .resReg 4 .e
  | .res4H => .resReg 4 .h
  | .res4L => .resReg 4 .l
  | .res4MemHl => .resMem 4
  | .res4A => .resReg 4 .a
  | .res5B => .resReg 5 .b
  | .res5C => .resReg 5 .c
  | .res5D => .resReg 5 .d
  | .res5E => .resReg 5 .e
  | .res5H => .resReg 5 .h
  | .res5L => .resReg 5 .l
  | .res5MemHl => .resMem 5
  | .res5A => .resReg 5 .a
  | .res6B => .resReg 6 .b
  | .res6C => .resReg 6 .c
  | .res6D => .resReg 6 .d
  | .res6E => .resReg 6 .e
  | .res6H => .resReg 6 .h
  | .res6L => .resReg 6 .l
  | .res6MemHl => .resMem 6
  | .res6A => .resReg 6 .a
  | .res7B => .resReg 7 .b
  | .res7C => .resReg 7 .c
  | .res7D => .resReg 7 .d
  | .res7E => .resReg 7 .e
  | .res7H => .resReg 7 .h
  | .res7L => .resReg 7 .l
  | .res7MemHl => .resMem 7
  | .res7A => .resReg 7 .a
  | .set0B => .setReg 0 .b
  | .set0C => .setReg 0 .c
  | .set0D => .setReg 0 .d
  | .set0E => .setReg 0 .e
  | .set0H => .setReg 0 .h
  | .set0L => .setReg 0 .l
  | .set0MemHl => .setMem 0
  | .set0A => .setReg 0 .a
  | .set1B => .setReg 1 .b
  | .set1C => .setReg 1 .c
  | .set1D => .setReg 1 .d
  | .set1E => .setReg 1 .e
  | .set1H => .setReg 1 .h
  | .set1L => .setReg 1 .l
  | .set1MemHl => .setMem 1
  | .set1A => .setReg 1 .a
  | .set2B => .setReg 2 .b
  | .set2C => .setReg 2 .c
  | .set2D => .setReg 2 .d
  | .set2E => .setReg 2 .e
  | .set2H => .setReg 2 .h
  | .set2L => .setReg 2 .l
  | .set2MemHl => .setMem 2
  | .set2A => .setReg 2 .a
  | .set3B => .setReg 3 .b
  | .set3C => .setReg 3 .c
  | .set3D => .setReg 3 .d
  | .set3E => .setReg 3 .e
  | .set3H => .setReg 3 .h
  | .set3L => .setReg 3 .l
  | .set3MemHl => .setMem 3
  | .set3A => .setReg 3 .a
  | .set4B => .setReg 4 .b
  | .set4C => .setReg 4 .c
  | .set4D => .setReg 4 .d
  | .set4E => .setReg 4 .e
  | .set4H => .setReg 4 .h
  | .set4L => .setReg 4 .l
  | .set4MemHl => .setMem 4
  | .set4A => .setReg 4 .a
  | .set5B => .setReg 5 .b
  | .set5C => .setReg 5 .c
  | .set5D => .setReg 5 .d
  | .set5E => .setReg 5 .e
  | .set5H => .setReg 5 .h
  | .set5L => .setReg 5 .l
  | .set5MemHl => .setMem 5
  | .set5A => .setReg 5 .a
  | .set6B => .setReg 6 .b
  | .set6C => .setReg 6 .c
  | .set6D => .setReg 6 .d
  | .set6E => .setReg 6 .e
  | .set6H => .setReg 6 .h
  | .set6L => .setReg 6 .l
  | .set6MemHl => .setMem 6
  | .set6A => .setReg 6 .a
  | .set7B => .setReg 7 .b
  | .set7C => .setReg 7 .c
  | .set7D => .setReg 7 .d
  | .set7E => .setReg 7 .e
  | .set7H => .setReg 7 .h
  | .set7L => .setReg 7 .l
  | .set7MemHl => .setMem 7
  | .set7A => .setReg 7 .a
  | .prefixCb => .cbPage

end Sys2Proof
end

