-- ==== Sys2Proof/WellFormed.lean ====
section
/-! DEFINITION. Which terms of `Instr` are instructions. -/

namespace Sys2Proof

/-- Every immediate value is legal (30_encoding.md R134), so the one ill-formed term is the prefix byte
alone: "The prefix byte 0xCB is not an instruction" (R139). The eleven illegal opcodes are well-formed
encodings whose meaning is a fault (R140). -/
def Instr.wellFormed : Instr → Bool
  | .prefixCb => false
  | _ => true

end Sys2Proof
end

