-- ==== Sys2Proof/Decode.lean ====
section
/-! DEFINITION. The decoder (the maps of 30_encoding.md R142 and R143) and, after it, the encoder (the field
formulas of R132 to R139). The two are written from different tables of the spec. -/

namespace Sys2Proof

/-- Why a list of bytes holds no instruction. Every first byte begins one (R140, R141), so bytes can only be missing. -/
inductive DecodeError where
  | noBytes     -- the list is empty
  | truncated   -- the list ends inside an instruction
  deriving DecidableEq, Repr

/-! ## The opcode maps. `lo` is the low nibble of the opcode, `n` the first immediate byte, `nn` both (R134). -/

/-- Row 0x of the plain map (R142). -/
def plainRow0 (lo : Nat) (n : Byte) (nn : Word) : Instr :=
  match lo with
  | 0 => .nop
  | 1 => .ldBcN16 nn
  | 2 => .ldMemBcA
  | 3 => .incBc
  | 4 => .incB
  | 5 => .decB
  | 6 => .ldBN8 n
  | 7 => .rlca
  | 8 => .ldMemA16Sp nn
  | 9 => .addHlBc
  | 10 => .ldAMemBc
  | 11 => .decBc
  | 12 => .incC
  | 13 => .decC
  | 14 => .ldCN8 n
  | _ => .rrca

/-- Row 1x of the plain map (R142). -/
def plainRow1 (lo : Nat) (n : Byte) (nn : Word) : Instr :=
  match lo with
  | 0 => .stop n
  | 1 => .ldDeN16 nn
  | 2 => .ldMemDeA
  | 3 => .incDe
  | 4 => .incD
  | 5 => .decD
  | 6 => .ldDN8 n
  | 7 => .rla
  | 8 => .jrE8 n
  | 9 => .addHlDe
  | 10 => .ldAMemDe
  | 11 => .decDe
  | 12 => .incE
  | 13 => .decE
  | 14 => .ldEN8 n
  | _ => .rra

/-- Row 2x of the plain map (R142). -/
def plainRow2 (lo : Nat) (n : Byte) (nn : Word) : Instr :=
  match lo with
  | 0 => .jrNzE8 n
  | 1 => .ldHlN16 nn
  | 2 => .ldMemHlIncA
  | 3 => .incHl
  | 4 => .incH
  | 5 => .decH
  | 6 => .ldHN8 n
  | 7 => .daa
  | 8 => .jrZE8 n
  | 9 => .addHlHl
  | 10 => .ldAMemHlInc
  | 11 => .decHl
  | 12 => .incL
  | 13 => .decL
  | 14 => .ldLN8 n
  | _ => .cpl

/-- Row 3x of the plain map (R142). -/
def plainRow3 (lo : Nat) (n : Byte) (nn : Word) : Instr :=
  match lo with
  | 0 => .jrNcE8 n
  | 1 => .ldSpN16 nn
  | 2 => .ldMemHlDecA
  | 3 => .incSp
  | 4 => .incMemHl
  | 5 => .decMemHl
  | 6 => .ldMemHlN8 n
  | 7 => .scf
  | 8 => .jrCE8 n
  | 9 => .addHlSp
  | 10 => .ldAMemHlDec
  | 11 => .decSp
  | 12 => .incA
  | 13 => .decA
  | 14 => .ldAN8 n
  | _ => .ccf

/-- Row 4x of the plain map (R142). -/
def plainRow4 (lo : Nat) (_n : Byte) (_nn : Word) : Instr :=
  match lo with
  | 0 => .ldBB
  | 1 => .ldBC
  | 2 => .ldBD
  | 3 => .ldBE
  | 4 => .ldBH
  | 5 => .ldBL
  | 6 => .ldBMemHl
  | 7 => .ldBA
  | 8 => .ldCB
  | 9 => .ldCC
  | 10 => .ldCD
  | 11 => .ldCE
  | 12 => .ldCH
  | 13 => .ldCL
  | 14 => .ldCMemHl
  | _ => .ldCA

/-- Row 5x of the plain map (R142). -/
def plainRow5 (lo : Nat) (_n : Byte) (_nn : Word) : Instr :=
  match lo with
  | 0 => .ldDB
  | 1 => .ldDC
  | 2 => .ldDD
  | 3 => .ldDE
  | 4 => .ldDH
  | 5 => .ldDL
  | 6 => .ldDMemHl
  | 7 => .ldDA
  | 8 => .ldEB
  | 9 => .ldEC
  | 10 => .ldED
  | 11 => .ldEE
  | 12 => .ldEH
  | 13 => .ldEL
  | 14 => .ldEMemHl
  | _ => .ldEA

/-- Row 6x of the plain map (R142). -/
def plainRow6 (lo : Nat) (_n : Byte) (_nn : Word) : Instr :=
  match lo with
  | 0 => .ldHB
  | 1 => .ldHC
  | 2 => .ldHD
  | 3 => .ldHE
  | 4 => .ldHH
  | 5 => .ldHL
  | 6 => .ldHMemHl
  | 7 => .ldHA
  | 8 => .ldLB
  | 9 => .ldLC
  | 10 => .ldLD
  | 11 => .ldLE
  | 12 => .ldLH
  | 13 => .ldLL
  | 14 => .ldLMemHl
  | _ => .ldLA

/-- Row 7x of the plain map (R142). -/
def plainRow7 (lo : Nat) (_n : Byte) (_nn : Word) : Instr :=
  match lo with
  | 0 => .ldMemHlB
  | 1 => .ldMemHlC
  | 2 => .ldMemHlD
  | 3 => .ldMemHlE
  | 4 => .ldMemHlH
  | 5 => .ldMemHlL
  | 6 => .halt
  | 7 => .ldMemHlA
  | 8 => .ldAB
  | 9 => .ldAC
  | 10 => .ldAD
  | 11 => .ldAE
  | 12 => .ldAH
  | 13 => .ldAL
  | 14 => .ldAMemHl
  | _ => .ldAA

/-- Row 8x of the plain map (R142). -/
def plainRow8 (lo : Nat) (_n : Byte) (_nn : Word) : Instr :=
  match lo with
  | 0 => .addAB
  | 1 => .addAC
  | 2 => .addAD
  | 3 => .addAE
  | 4 => .addAH
  | 5 => .addAL
  | 6 => .addAMemHl
  | 7 => .addAA
  | 8 => .adcAB
  | 9 => .adcAC
  | 10 => .adcAD
  | 11 => .adcAE
  | 12 => .adcAH
  | 13 => .adcAL
  | 14 => .adcAMemHl
  | _ => .adcAA

/-- Row 9x of the plain map (R142). -/
def plainRow9 (lo : Nat) (_n : Byte) (_nn : Word) : Instr :=
  match lo with
  | 0 => .subAB
  | 1 => .subAC
  | 2 => .subAD
  | 3 => .subAE
  | 4 => .subAH
  | 5 => .subAL
  | 6 => .subAMemHl
  | 7 => .subAA
  | 8 => .sbcAB
  | 9 => .sbcAC
  | 10 => .sbcAD
  | 11 => .sbcAE
  | 12 => .sbcAH
  | 13 => .sbcAL
  | 14 => .sbcAMemHl
  | _ => .sbcAA

/-- Row Ax of the plain map (R142). -/
def plainRowA (lo : Nat) (_n : Byte) (_nn : Word) : Instr :=
  match lo with
  | 0 => .andAB
  | 1 => .andAC
  | 2 => .andAD
  | 3 => .andAE
  | 4 => .andAH
  | 5 => .andAL
  | 6 => .andAMemHl
  | 7 => .andAA
  | 8 => .xorAB
  | 9 => .xorAC
  | 10 => .xorAD
  | 11 => .xorAE
  | 12 => .xorAH
  | 13 => .xorAL
  | 14 => .xorAMemHl
  | _ => .xorAA

/-- Row Bx of the plain map (R142). -/
def plainRowB (lo : Nat) (_n : Byte) (_nn : Word) : Instr :=
  match lo with
  | 0 => .orAB
  | 1 => .orAC
  | 2 => .orAD
  | 3 => .orAE
  | 4 => .orAH
  | 5 => .orAL
  | 6 => .orAMemHl
  | 7 => .orAA
  | 8 => .cpAB
  | 9 => .cpAC
  | 10 => .cpAD
  | 11 => .cpAE
  | 12 => .cpAH
  | 13 => .cpAL
  | 14 => .cpAMemHl
  | _ => .cpAA

/-- Row Cx of the plain map (R142). -/
def plainRowC (lo : Nat) (n : Byte) (nn : Word) : Instr :=
  match lo with
  | 0 => .retNz
  | 1 => .popBc
  | 2 => .jpNzA16 nn
  | 3 => .jpA16 nn
  | 4 => .callNzA16 nn
  | 5 => .pushBc
  | 6 => .addAN8 n
  | 7 => .rst00
  | 8 => .retZ
  | 9 => .ret
  | 10 => .jpZA16 nn
  | 11 => .prefixCb
  | 12 => .callZA16 nn
  | 13 => .callA16 nn
  | 14 => .adcAN8 n
  | _ => .rst08

/-- Row Dx of the plain map (R142). -/
def plainRowD (lo : Nat) (n : Byte) (nn : Word) : Instr :=
  match lo with
  | 0 => .retNc
  | 1 => .popDe
  | 2 => .jpNcA16 nn
  | 3 => .illegalD3
  | 4 => .callNcA16 nn
  | 5 => .pushDe
  | 6 => .subAN8 n
  | 7 => .rst10
  | 8 => .retC
  | 9 => .reti
  | 10 => .jpCA16 nn
  | 11 => .illegalDB
  | 12 => .callCA16 nn
  | 13 => .illegalDD
  | 14 => .sbcAN8 n
  | _ => .rst18

/-- Row Ex of the plain map (R142). -/
def plainRowE (lo : Nat) (n : Byte) (nn : Word) : Instr :=
  match lo with
  | 0 => .ldhMemA8A n
  | 1 => .popHl
  | 2 => .ldhMemCA
  | 3 => .illegalE3
  | 4 => .illegalE4
  | 5 => .pushHl
  | 6 => .andAN8 n
  | 7 => .rst20
  | 8 => .addSpE8 n
  | 9 => .jpHl
  | 10 => .ldMemA16A nn
  | 11 => .illegalEB
  | 12 => .illegalEC
  | 13 => .illegalED
  | 14 => .xorAN8 n
  | _ => .rst28

/-- Row Fx of the plain map (R142). -/
def plainRowF (lo : Nat) (n : Byte) (nn : Word) : Instr :=
  match lo with
  | 0 => .ldhAMemA8 n
  | 1 => .popAf
  | 2 => .ldhAMemC
  | 3 => .di
  | 4 => .illegalF4
  | 5 => .pushAf
  | 6 => .orAN8 n
  | 7 => .rst30
  | 8 => .ldHlSpE8 n
  | 9 => .ldSpHl
  | 10 => .ldAMemA16 nn
  | 11 => .ei
  | 12 => .illegalFC
  | 13 => .illegalFD
  | 14 => .cpAN8 n
  | _ => .rst38

/-- The plain map (R142): the instruction of an opcode and its immediates. Immediates a row does not have are not read. -/
def decodePlain (op : Byte) (n : Byte) (nn : Word) : Instr :=
  match op.toNat / 16 with
  | 0 => plainRow0 (op.toNat % 16) n nn
  | 1 => plainRow1 (op.toNat % 16) n nn
  | 2 => plainRow2 (op.toNat % 16) n nn
  | 3 => plainRow3 (op.toNat % 16) n nn
  | 4 => plainRow4 (op.toNat % 16) n nn
  | 5 => plainRow5 (op.toNat % 16) n nn
  | 6 => plainRow6 (op.toNat % 16) n nn
  | 7 => plainRow7 (op.toNat % 16) n nn
  | 8 => plainRow8 (op.toNat % 16) n nn
  | 9 => plainRow9 (op.toNat % 16) n nn
  | 10 => plainRowA (op.toNat % 16) n nn
  | 11 => plainRowB (op.toNat % 16) n nn
  | 12 => plainRowC (op.toNat % 16) n nn
  | 13 => plainRowD (op.toNat % 16) n nn
  | 14 => plainRowE (op.toNat % 16) n nn
  | _ => plainRowF (op.toNat % 16) n nn

/-- Row 0x of the CB map (R143). -/
def cbRow0 (lo : Nat) : Instr :=
  match lo with
  | 0 => .rlcB
  | 1 => .rlcC
  | 2 => .rlcD
  | 3 => .rlcE
  | 4 => .rlcH
  | 5 => .rlcL
  | 6 => .rlcMemHl
  | 7 => .rlcA
  | 8 => .rrcB
  | 9 => .rrcC
  | 10 => .rrcD
  | 11 => .rrcE
  | 12 => .rrcH
  | 13 => .rrcL
  | 14 => .rrcMemHl
  | _ => .rrcA

/-- Row 1x of the CB map (R143). -/
def cbRow1 (lo : Nat) : Instr :=
  match lo with
  | 0 => .rlB
  | 1 => .rlC
  | 2 => .rlD
  | 3 => .rlE
  | 4 => .rlH
  | 5 => .rlL
  | 6 => .rlMemHl
  | 7 => .rlA
  | 8 => .rrB
  | 9 => .rrC
  | 10 => .rrD
  | 11 => .rrE
  | 12 => .rrH
  | 13 => .rrL
  | 14 => .rrMemHl
  | _ => .rrA

/-- Row 2x of the CB map (R143). -/
def cbRow2 (lo : Nat) : Instr :=
  match lo with
  | 0 => .slaB
  | 1 => .slaC
  | 2 => .slaD
  | 3 => .slaE
  | 4 => .slaH
  | 5 => .slaL
  | 6 => .slaMemHl
  | 7 => .slaA
  | 8 => .sraB
  | 9 => .sraC
  | 10 => .sraD
  | 11 => .sraE
  | 12 => .sraH
  | 13 => .sraL
  | 14 => .sraMemHl
  | _ => .sraA

/-- Row 3x of the CB map (R143). -/
def cbRow3 (lo : Nat) : Instr :=
  match lo with
  | 0 => .swapB
  | 1 => .swapC
  | 2 => .swapD
  | 3 => .swapE
  | 4 => .swapH
  | 5 => .swapL
  | 6 => .swapMemHl
  | 7 => .swapA
  | 8 => .srlB
  | 9 => .srlC
  | 10 => .srlD
  | 11 => .srlE
  | 12 => .srlH
  | 13 => .srlL
  | 14 => .srlMemHl
  | _ => .srlA

/-- Row 4x of the CB map (R143). -/
def cbRow4 (lo : Nat) : Instr :=
  match lo with
  | 0 => .bit0B
  | 1 => .bit0C
  | 2 => .bit0D
  | 3 => .bit0E
  | 4 => .bit0H
  | 5 => .bit0L
  | 6 => .bit0MemHl
  | 7 => .bit0A
  | 8 => .bit1B
  | 9 => .bit1C
  | 10 => .bit1D
  | 11 => .bit1E
  | 12 => .bit1H
  | 13 => .bit1L
  | 14 => .bit1MemHl
  | _ => .bit1A

/-- Row 5x of the CB map (R143). -/
def cbRow5 (lo : Nat) : Instr :=
  match lo with
  | 0 => .bit2B
  | 1 => .bit2C
  | 2 => .bit2D
  | 3 => .bit2E
  | 4 => .bit2H
  | 5 => .bit2L
  | 6 => .bit2MemHl
  | 7 => .bit2A
  | 8 => .bit3B
  | 9 => .bit3C
  | 10 => .bit3D
  | 11 => .bit3E
  | 12 => .bit3H
  | 13 => .bit3L
  | 14 => .bit3MemHl
  | _ => .bit3A

/-- Row 6x of the CB map (R143). -/
def cbRow6 (lo : Nat) : Instr :=
  match lo with
  | 0 => .bit4B
  | 1 => .bit4C
  | 2 => .bit4D
  | 3 => .bit4E
  | 4 => .bit4H
  | 5 => .bit4L
  | 6 => .bit4MemHl
  | 7 => .bit4A
  | 8 => .bit5B
  | 9 => .bit5C
  | 10 => .bit5D
  | 11 => .bit5E
  | 12 => .bit5H
  | 13 => .bit5L
  | 14 => .bit5MemHl
  | _ => .bit5A

/-- Row 7x of the CB map (R143). -/
def cbRow7 (lo : Nat) : Instr :=
  match lo with
  | 0 => .bit6B
  | 1 => .bit6C
  | 2 => .bit6D
  | 3 => .bit6E
  | 4 => .bit6H
  | 5 => .bit6L
  | 6 => .bit6MemHl
  | 7 => .bit6A
  | 8 => .bit7B
  | 9 => .bit7C
  | 10 => .bit7D
  | 11 => .bit7E
  | 12 => .bit7H
  | 13 => .bit7L
  | 14 => .bit7MemHl
  | _ => .bit7A

/-- Row 8x of the CB map (R143). -/
def cbRow8 (lo : Nat) : Instr :=
  match lo with
  | 0 => .res0B
  | 1 => .res0C
  | 2 => .res0D
  | 3 => .res0E
  | 4 => .res0H
  | 5 => .res0L
  | 6 => .res0MemHl
  | 7 => .res0A
  | 8 => .res1B
  | 9 => .res1C
  | 10 => .res1D
  | 11 => .res1E
  | 12 => .res1H
  | 13 => .res1L
  | 14 => .res1MemHl
  | _ => .res1A

/-- Row 9x of the CB map (R143). -/
def cbRow9 (lo : Nat) : Instr :=
  match lo with
  | 0 => .res2B
  | 1 => .res2C
  | 2 => .res2D
  | 3 => .res2E
  | 4 => .res2H
  | 5 => .res2L
  | 6 => .res2MemHl
  | 7 => .res2A
  | 8 => .res3B
  | 9 => .res3C
  | 10 => .res3D
  | 11 => .res3E
  | 12 => .res3H
  | 13 => .res3L
  | 14 => .res3MemHl
  | _ => .res3A

/-- Row Ax of the CB map (R143). -/
def cbRowA (lo : Nat) : Instr :=
  match lo with
  | 0 => .res4B
  | 1 => .res4C
  | 2 => .res4D
  | 3 => .res4E
  | 4 => .res4H
  | 5 => .res4L
  | 6 => .res4MemHl
  | 7 => .res4A
  | 8 => .res5B
  | 9 => .res5C
  | 10 => .res5D
  | 11 => .res5E
  | 12 => .res5H
  | 13 => .res5L
  | 14 => .res5MemHl
  | _ => .res5A

/-- Row Bx of the CB map (R143). -/
def cbRowB (lo : Nat) : Instr :=
  match lo with
  | 0 => .res6B
  | 1 => .res6C
  | 2 => .res6D
  | 3 => .res6E
  | 4 => .res6H
  | 5 => .res6L
  | 6 => .res6MemHl
  | 7 => .res6A
  | 8 => .res7B
  | 9 => .res7C
  | 10 => .res7D
  | 11 => .res7E
  | 12 => .res7H
  | 13 => .res7L
  | 14 => .res7MemHl
  | _ => .res7A

/-- Row Cx of the CB map (R143). -/
def cbRowC (lo : Nat) : Instr :=
  match lo with
  | 0 => .set0B
  | 1 => .set0C
  | 2 => .set0D
  | 3 => .set0E
  | 4 => .set0H
  | 5 => .set0L
  | 6 => .set0MemHl
  | 7 => .set0A
  | 8 => .set1B
  | 9 => .set1C
  | 10 => .set1D
  | 11 => .set1E
  | 12 => .set1H
  | 13 => .set1L
  | 14 => .set1MemHl
  | _ => .set1A

/-- Row Dx of the CB map (R143). -/
def cbRowD (lo : Nat) : Instr :=
  match lo with
  | 0 => .set2B
  | 1 => .set2C
  | 2 => .set2D
  | 3 => .set2E
  | 4 => .set2H
  | 5 => .set2L
  | 6 => .set2MemHl
  | 7 => .set2A
  | 8 => .set3B
  | 9 => .set3C
  | 10 => .set3D
  | 11 => .set3E
  | 12 => .set3H
  | 13 => .set3L
  | 14 => .set3MemHl
  | _ => .set3A

/-- Row Ex of the CB map (R143). -/
def cbRowE (lo : Nat) : Instr :=
  match lo with
  | 0 => .set4B
  | 1 => .set4C
  | 2 => .set4D
  | 3 => .set4E
  | 4 => .set4H
  | 5 => .set4L
  | 6 => .set4MemHl
  | 7 => .set4A
  | 8 => .set5B
  | 9 => .set5C
  | 10 => .set5D
  | 11 => .set5E
  | 12 => .set5H
  | 13 => .set5L
  | 14 => .set5MemHl
  | _ => .set5A

/-- Row Fx of the CB map (R143). -/
def cbRowF (lo : Nat) : Instr :=
  match lo with
  | 0 => .set6B
  | 1 => .set6C
  | 2 => .set6D
  | 3 => .set6E
  | 4 => .set6H
  | 5 => .set6L
  | 6 => .set6MemHl
  | 7 => .set6A
  | 8 => .set7B
  | 9 => .set7C
  | 10 => .set7D
  | 11 => .set7E
  | 12 => .set7H
  | 13 => .set7L
  | 14 => .set7MemHl
  | _ => .set7A

/-- The CB map (R143): the instruction of the byte after 0xCB. All 256 are defined (R139). -/
def decodeCb (op : Byte) : Instr :=
  match op.toNat / 16 with
  | 0 => cbRow0 (op.toNat % 16)
  | 1 => cbRow1 (op.toNat % 16)
  | 2 => cbRow2 (op.toNat % 16)
  | 3 => cbRow3 (op.toNat % 16)
  | 4 => cbRow4 (op.toNat % 16)
  | 5 => cbRow5 (op.toNat % 16)
  | 6 => cbRow6 (op.toNat % 16)
  | 7 => cbRow7 (op.toNat % 16)
  | 8 => cbRow8 (op.toNat % 16)
  | 9 => cbRow9 (op.toNat % 16)
  | 10 => cbRowA (op.toNat % 16)
  | 11 => cbRowB (op.toNat % 16)
  | 12 => cbRowC (op.toNat % 16)
  | 13 => cbRowD (op.toNat % 16)
  | 14 => cbRowE (op.toNat % 16)
  | _ => cbRowF (op.toNat % 16)

/-- The opcodes of format `op8_n16` (R130, opcode_table.json column "length"). -/
def threeByteOpcodes : List Byte :=
  [0x01, 0x08, 0x11, 0x21, 0x31, 0xC2, 0xC3, 0xC4, 0xCA,
   0xCC, 0xCD, 0xD2, 0xD4, 0xDA, 0xDC, 0xEA, 0xFA]

/-- The opcodes of formats `op8_n8` and `op8_e8`; STOP among them (R130). -/
def twoByteOpcodes : List Byte :=
  [0x06, 0x0E, 0x10, 0x16, 0x18, 0x1E, 0x20, 0x26, 0x28, 0x2E, 0x30, 0x36, 0x38,
   0x3E, 0xC6, 0xCE, 0xD6, 0xDE, 0xE0, 0xE6, 0xE8, 0xEE, 0xF0, 0xF6, 0xF8, 0xFE]

/-- The length of a plain instruction, a function of its first byte alone (R141). -/
def opLength (op : Byte) : Nat :=
  if op ∈ threeByteOpcodes then 3 else if op ∈ twoByteOpcodes then 2 else 1

/-- Reads one instruction off a list of bytes and gives the bytes after it (R131, R139). Total; it
rejects, by name, only a list that ends too soon. -/
def decode : List Byte → Except DecodeError (Instr × List Byte)
  | [] => .error .noBytes
  | op :: rest =>
    if op = 0xCB then
      match rest with
      | [] => .error .truncated
      | op2 :: rest2 => .ok (decodeCb op2, rest2)
    else if opLength op = 1 then .ok (decodePlain op 0 0, rest)
    else if opLength op = 2 then
      match rest with
      | [] => .error .truncated
      | n :: rest2 => .ok (decodePlain op n 0, rest2)
    else
      match rest with
      | lo :: hi :: rest2 => .ok (decodePlain op 0 (hi ++ lo), rest2)
      | _ => .error .truncated

/-! ## The encoder -/

/-- The three bits of `r8` (R133). -/
def R8.code : R8 → BitVec 3
  | .b => 0 | .c => 1 | .d => 2 | .e => 3 | .h => 4 | .l => 5 | .a => 7

/-- The value of `r8` that selects the byte at (HL) (R133). -/
def memCode : BitVec 3 := 6

/-- The two bits of `r16` (R133). -/
def R16.code : R16 → BitVec 2
  | .bc => 0 | .de => 1 | .hl => 2 | .sp => 3

/-- The two bits of `r16stk` (R133). -/
def R16Stk.code : R16Stk → BitVec 2
  | .bc => 0 | .de => 1 | .hl => 2 | .af => 3

/-- The two bits p of the pointer loads (R135, z = 2). -/
def Ptr.code : Ptr → BitVec 2
  | .bc => 0 | .de => 1

/-- The condition's number (R133), as the field y of `RET/JP/CALL cc`. -/
def Cond.code : Cond → BitVec 3
  | .nz => 0 | .z => 1 | .nc => 2 | .c => 3

/-- The three bits of `alu` (R133). -/
def Alu.code : Alu → BitVec 3
  | .add => 0 | .adc => 1 | .sub => 2 | .sbc => 3 | .and => 4 | .xor => 5 | .or => 6 | .cp => 7

/-- The three bits of `rot` (R133). -/
def Rot.code : Rot → BitVec 3
  | .rlc => 0 | .rrc => 1 | .rl => 2 | .rr => 3 | .sla => 4 | .sra => 5 | .swap => 6 | .srl => 7

/-- The field y of the accumulator rotates (R135, z = 7). -/
def AccRot.code : AccRot → BitVec 3
  | .rlca => 0 | .rrca => 1 | .rla => 2 | .rra => 3

/-- An opcode from its fields x, y, z (R132). -/
def opcodeXyz (x : BitVec 2) (y z : BitVec 3) : Byte := x ++ y ++ z

/-- An opcode from its fields x, p, q, z (R132: y is p followed by q). -/
def opcodeXpqz (x p : BitVec 2) (q : BitVec 1) (z : BitVec 3) : Byte := x ++ p ++ q ++ z

/-- The two bytes of a 16-bit immediate, low byte first (R134, 20_memory.md R71). -/
def wordBytes (nn : Word) : List Byte := [nn.setWidth 8, nn.extractLsb' 8 8]

/-- The bytes of an instruction, from the field tables of R133 to R139. -/
def Form.encode : Form → List Byte
  | .ldRegReg dst src => [opcodeXyz 1 dst.code src.code]
  | .ldRegImm dst n => [opcodeXyz 0 dst.code 6, n]
  | .ldRegMem dst => [opcodeXyz 1 dst.code memCode]
  | .ldMemReg src => [opcodeXyz 1 memCode src.code]
  | .ldMemImm n => [opcodeXyz 0 memCode 6, n]
  | .ldAPtr p => [opcodeXpqz 0 p.code 1 2]
  | .ldPtrA p => [opcodeXpqz 0 p.code 0 2]
  | .ldAAbs nn => opcodeXyz 3 7 2 :: wordBytes nn
  | .ldAbsA nn => opcodeXyz 3 5 2 :: wordBytes nn
  | .ldhAC => [opcodeXyz 3 6 2]
  | .ldhCA => [opcodeXyz 3 4 2]
  | .ldhAImm n => [opcodeXyz 3 6 0, n]
  | .ldhImmA n => [opcodeXyz 3 4 0, n]
  | .ldAHlInc => [opcodeXpqz 0 2 1 2]
  | .ldAHlDec => [opcodeXpqz 0 3 1 2]
  | .ldHlIncA => [opcodeXpqz 0 2 0 2]
  | .ldHlDecA => [opcodeXpqz 0 3 0 2]
  | .ldPairImm rr nn => opcodeXpqz 0 rr.code 0 1 :: wordBytes nn
  | .ldAbsSp nn => opcodeXyz 0 1 0 :: wordBytes nn
  | .ldSpHl => [opcodeXpqz 3 3 1 1]
  | .push rr => [opcodeXpqz 3 rr.code 0 5]
  | .pop rr => [opcodeXpqz 3 rr.code 0 1]
  | .aluReg op src => [opcodeXyz 2 op.code src.code]
  | .aluMem op => [opcodeXyz 2 op.code memCode]
  | .aluImm op n => [opcodeXyz 3 op.code 6, n]
  | .incReg dst => [opcodeXyz 0 dst.code 4]
  | .incMem => [opcodeXyz 0 memCode 4]
  | .decReg dst => [opcodeXyz 0 dst.code 5]
  | .decMem => [opcodeXyz 0 memCode 5]
  | .daa => [opcodeXyz 0 4 7]
  | .cpl => [opcodeXyz 0 5 7]
  | .scf => [opcodeXyz 0 6 7]
  | .ccf => [opcodeXyz 0 7 7]
  | .incPair rr => [opcodeXpqz 0 rr.code 0 3]
  | .decPair rr => [opcodeXpqz 0 rr.code 1 3]
  | .addHl rr => [opcodeXpqz 0 rr.code 1 1]
  | .addSp e => [opcodeXyz 3 5 0, e]
  | .ldHlSp e => [opcodeXyz 3 7 0, e]
  | .rotA k => [opcodeXyz 0 k.code 7]
  | .rotReg k r => [0xCB, opcodeXyz 0 k.code r.code]
  | .rotMem k => [0xCB, opcodeXyz 0 k.code memCode]
  | .bitReg b r => [0xCB, opcodeXyz 1 b r.code]
  | .bitMem b => [0xCB, opcodeXyz 1 b memCode]
  | .resReg b r => [0xCB, opcodeXyz 2 b r.code]
  | .resMem b => [0xCB, opcodeXyz 2 b memCode]
  | .setReg b r => [0xCB, opcodeXyz 3 b r.code]
  | .setMem b => [0xCB, opcodeXyz 3 b memCode]
  | .jp nn => opcodeXyz 3 0 3 :: wordBytes nn
  | .jpCc cc nn => opcodeXyz 3 cc.code 2 :: wordBytes nn
  | .jpHl => [opcodeXpqz 3 2 1 1]
  | .jr e => [opcodeXyz 0 3 0, e]
  | .jrCc cc e => [opcodeXyz 0 (cc.code + 4) 0, e]
  | .call nn => opcodeXpqz 3 0 1 5 :: wordBytes nn
  | .callCc cc nn => opcodeXyz 3 cc.code 4 :: wordBytes nn
  | .ret => [opcodeXpqz 3 0 1 1]
  | .retCc cc => [opcodeXyz 3 cc.code 0]
  | .reti => [opcodeXpqz 3 1 1 1]
  | .rst t => [opcodeXyz 3 t 7]
  | .nop => [opcodeXyz 0 0 0]
  | .stop n => [opcodeXyz 0 2 0, n]
  | .halt => [opcodeXyz 1 6 6]
  | .di => [opcodeXyz 3 6 3]
  | .ei => [opcodeXyz 3 7 3]
  | .illegal op => [op]
  | .cbPage => [0xCB]

/-- The bytes of an instruction. -/
def encode (i : Instr) : List Byte := i.form.encode

/-! ## The table's words -/

/-- The `k` bytes of a number, least significant first. -/
def numberBytes : Nat → Nat → List Byte
  | 0, _ => []
  | k + 1, w => BitVec.ofNat 8 w :: numberBytes k (w / 256)

/-- The bytes, in the order of their addresses, of an instruction the table numbers as `w` in `nbits` bits,
followed by zeros up to the longest instruction (3 bytes). spec/opcode_table.json numbers a row of the CB
page as the one number 0xCBnn, its first byte 0xCB in bits 15..8; every other row as its first byte in bits 7..0
(notes/assumptions/9.md). -/
def tableWordBytes (nbits w : Nat) : List Byte :=
  if nbits = 16 ∧ w / 256 % 256 = 0xCB then [0xCB, BitVec.ofNat 8 w, 0]
  else numberBytes 3 (w % 2 ^ (nbits / 8 * 8))

/-- The instruction the decoder reads from a table word. -/
def decodeTableWord (nbits w : Nat) : Option Instr :=
  match decode (tableWordBytes nbits w) with
  | .ok (i, _) => some i
  | .error _ => none

end Sys2Proof
end

