-- ==== Sys2Proof/Config.lean ====
section
/-! DEFINITION. What one machine fixes (the parameters of 00_scope.md R8) and the free values the spec calls draws. -/

namespace Sys2Proof

/-- The device variants of 00_scope.md R2. -/
inductive Device where
  | dmg | mgb | sgb | sgb2 | cgb
  deriving DecidableEq, Repr

/-- The cartridge controllers the spec defines (20_memory.md R87 to R92). -/
inductive Controller where
  | plain   -- "None" (R87)
  | mbc1    -- R88, R89
  | mbc1m   -- R90
  | mbc2    -- R91
  | mbc5    -- R92
  deriving DecidableEq, Repr

/-- The facts of an inserted cartridge (20_memory.md R85, R86). Its ROM and RAM bytes are in memory. -/
structure Cart where
  controller : Controller
  /-- 16 KiB ROM banks, `2 << n` for ROM size code n. -/
  romBanks   : Nat
  /-- RAM bytes that exist behind the RAM window (0: none; MBC2: its 512 cells). -/
  ramSize    : Nat
  hasRam     : Bool
  hasBattery : Bool
  deriving DecidableEq, Repr

/-- One device's row of the post-boot table: the CPU registers of 10_state.md R60 and the I/O registers of R61, as
read values. NR13, NR23, NR31, NR33 and NR41 have no field, because nothing of them can be read. -/
structure PostBootRow where
  a     : Byte
  /-- F where the header-checksum flag `hc` is 0. -/
  f     : Byte
  /-- F where `hc` is 1. -/
  fHc   : Byte
  b     : Byte
  c     : Byte
  d     : Byte
  e     : Byte
  h     : Byte
  l     : Byte
  sp    : Word
  pc    : Word
  p1    : Byte
  sb    : Byte
  sc    : Byte
  div   : Byte
  tima  : Byte
  tma   : Byte
  tac   : Byte
  iflag : Byte
  nr10  : Byte
  nr11  : Byte
  nr12  : Byte
  nr14  : Byte
  nr21  : Byte
  nr22  : Byte
  nr24  : Byte
  nr30  : Byte
  nr32  : Byte
  nr34  : Byte
  nr42  : Byte
  nr43  : Byte
  nr44  : Byte
  nr50  : Byte
  nr51  : Byte
  nr52  : Byte
  lcdc  : Byte
  scy   : Byte
  scx   : Byte
  lyc   : Byte
  dma   : Byte
  bgp   : Byte
  wy    : Byte
  wx    : Byte
  key1  : Byte
  vbk   : Byte
  svbk  : Byte
  ie    : Byte
  deriving DecidableEq, Repr

/-- `POST_BOOT`: the post-boot table, a row for each row of 10_state.md R60. -/
structure PostBoot where
  dmg       : PostBootRow
  mgb       : PostBootRow
  sgb       : PostBootRow
  sgb2      : PostBootRow
  /-- CGB in CGB mode. -/
  cgb       : PostBootRow
  /-- CGB not in CGB mode. -/
  cgbCompat : PostBootRow
  deriving DecidableEq, Repr

/-- The parameters of 00_scope.md R8. No step changes them. -/
structure Params where
  device             : Device
  /-- R2: derived at construction from the device and header byte 0x0143. -/
  cgbMode            : Bool
  /-- `CARTRIDGE`; none: no cartridge inserted (R76). -/
  cart               : Option Cart
  /-- `POST_BOOT` -/
  postBoot           : PostBoot
  /-- `BOOT_ROM` present. -/
  bootRom            : Bool
  /-- `HALT_BUG` -/
  haltBug            : Bool
  /-- `DMA_T_PER_BYTE` -/
  dmaTPerByte        : Nat
  /-- `MODE3_T_PER_PIXEL` -/
  mode3TPerPixel     : Nat
  /-- `PPU_ACCESS_LOCK` -/
  ppuAccessLock      : Bool
  /-- `SERIAL_T_PER_BYTE` for SC[1] = 0 -/
  serialTPerByte     : Nat
  /-- `SERIAL_T_PER_BYTE` for SC[1] = 1 in CGB mode (60_exceptions.md R391) -/
  serialFastTPerByte : Nat
  /-- `SERIAL_IN_BYTE` -/
  serialInByte       : Byte
  /-- `NO_CART_HEADER_CHECKSUM` -/
  noCartChecksum     : Byte
  /-- `SPEED_SWITCH_T` -/
  speedSwitchT       : Nat
  /-- `SAMPLE_RATE`, given as normal T-cycles per audio sample (0: no samples). -/
  samplePeriodT      : Nat
  deriving DecidableEq, Repr

/-- Which palette a non-CGB pixel went through (61_video_audio.md R475). -/
inductive Layer where
  | background | object0 | object1
  deriving DecidableEq, Repr

/-- A host colour (red, green, blue), 8 bits each: what `DMG_SHADES` and `CGB_COLOUR_CURVE` map to. -/
structure Rgb where
  red   : Byte
  green : Byte
  blue  : Byte
  deriving DecidableEq, Repr, Inhabited

namespace Config

/-! Free values: opaque, so that nothing can prove a value of one (notes/assumptions/7.md).
The first argument of each draw is the number of device ticks made so far, so that a read repeated
with no device tick between gives the same byte (20_memory.md R94). -/

/-- `draw(unusable_read)`: a read of 0xFEA0-0xFEFF (20_memory.md R84). -/
opaque unusableRead : Nat → Word → Byte

/-- A CGB-mode read of 0xFF51-0xFF56 or 0xFF72-0xFF77 (10_state.md R52). -/
opaque cgbRegisterRead : Nat → Word → Byte

/-- `draw(wave_ram_read)`: a CPU read of wave RAM while channel 3 is enabled (61_video_audio.md R486). -/
opaque waveRamRead : Nat → Word → Byte

/-- `draw(wave_ram_index)`: the byte a CPU write of wave RAM lands at while channel 3 is enabled (R486). -/
opaque waveRamIndex : Nat → Word → BitVec 4

/-- A wave RAM byte after a DMG retrigger of a running channel 3 (R486). -/
opaque waveRamCorruption : Nat → BitVec 4 → Byte

/-- The flags an instruction that writes only some of them leaves in an F that nothing has written since a
boot-ROM power-on (10_state.md R26). The first argument is the tick count, as above (notes/assumptions/17.md). -/
opaque unwrittenFlags : Nat → Byte

/-- The window column where WX was raised after the latch, so that `X + 7 - WX` is negative (61_video_audio.md R464), by X and WX (notes/assumptions/11.md). -/
opaque windowColumn : Nat → Byte → Nat

/-- The row of a listed object that the line no longer crosses: the height or OAM changed after the scan (R467), by line and object Y (notes/assumptions/11.md). -/
opaque objectRow : Nat → Byte → Nat

/-- An envelope timer of 0 less one, by NRx2 (R484; notes/assumptions/14.md). -/
opaque envelopeBelowZero : Byte → Nat

/-! The host-facing constants the spec leaves open (92_eei_decisions.md D35). No CPU-visible value depends on one. -/

/-- `DMG_SHADES`: the colour of a shade (61_video_audio.md R475). -/
opaque dmgShade : Device → Layer → BitVec 2 → Rgb

/-- `CGB_COLOUR_CURVE`: the colour of a 15-bit colour word (R476). -/
opaque cgbColour : BitVec 15 → Rgb

/-- `DAC_CURVE`: the analog value of a digital sample (R488). -/
opaque dacCurve : BitVec 4 → Rat

/-- The high-pass filter's output for an input and a capacitor value (`HPF_CHARGE`, R491). -/
opaque highPassOut : Device → Rat → Rat → Rat

/-- The high-pass filter's next capacitor value (R491). -/
opaque highPassCap : Device → Rat → Rat → Rat

end Config

end Sys2Proof
end

