-- ==== Sys2Proof/Machine/Defaults.lean ====
section
/-! DEFINITION. The defaults of the parameters (00_scope.md R8), the post-boot table among them (10_state.md R60, R61). -/

namespace Sys2Proof

/-- The DMG row of R60, and the DMG list of R61. KEY1, VBK and SVBK are those R61 gives a CGB; a DMG does not read them. -/
def PostBootRow.dmg : PostBootRow where
  a := 0x01
  f := 0x80
  fHc := 0xB0
  b := 0x00
  c := 0x13
  d := 0x00
  e := 0xD8
  h := 0x01
  l := 0x4D
  sp := 0xFFFE
  pc := 0x0100
  p1 := 0xCF
  sb := 0x00
  sc := 0x7E
  div := 0xAB
  tima := 0x00
  tma := 0x00
  tac := 0xF8
  iflag := 0xE1
  nr10 := 0x80
  nr11 := 0xBF
  nr12 := 0xF3
  nr14 := 0xBF
  nr21 := 0x3F
  nr22 := 0x00
  nr24 := 0xBF
  nr30 := 0x7F
  nr32 := 0x9F
  nr34 := 0xBF
  nr42 := 0x00
  nr43 := 0x00
  nr44 := 0xBF
  nr50 := 0x77
  nr51 := 0xF3
  nr52 := 0xF1
  lcdc := 0x91
  scy := 0x00
  scx := 0x00
  lyc := 0x00
  dma := 0xFF
  bgp := 0xFC
  wy := 0x00
  wx := 0x00
  key1 := 0x7E
  vbk := 0xFE
  svbk := 0xF8
  ie := 0x00

/-- The MGB row of R60. Its I/O values are the DMG's: R61 gives none for an MGB (DESIGN CHOICE, notes/assumptions/27.md). -/
def PostBootRow.mgb : PostBootRow := { PostBootRow.dmg with a := 0xFF }

/-- The SGB row of R60. Its I/O values are the DMG's but for NR52, the one R61 gives: channel 1 is off, where R62 has it
enabled on every device (DESIGN CHOICE, notes/assumptions/27.md). -/
def PostBootRow.sgb : PostBootRow :=
  { PostBootRow.dmg with f := 0x00, fHc := 0x00, c := 0x14, e := 0x00, h := 0xC0, l := 0x60, nr52 := 0xF0 }

/-- The SGB2 row of R60, with the SGB's I/O values (DESIGN CHOICE, notes/assumptions/27.md). -/
def PostBootRow.sgb2 : PostBootRow := { PostBootRow.sgb with a := 0xFF }

/-- The CGB row of R60 in CGB mode, with the CGB values of R61; DIV, a draw there, is 0 (DESIGN CHOICE, notes/assumptions/4.md). -/
def PostBootRow.cgb : PostBootRow :=
  { PostBootRow.dmg with
    a := 0x11, fHc := 0x80, c := 0x00, d := 0xFF, e := 0x56, h := 0x00, l := 0x0D, sc := 0x7F, div := 0x00, dma := 0x00 }

/-- The CGB row of R60 outside CGB mode; its draws B, H and L are 0 (DESIGN CHOICE, notes/assumptions/4.md). -/
def PostBootRow.cgbCompat : PostBootRow := { PostBootRow.cgb with d := 0x00, e := 0x08, l := 0x00 }

/-- The default of `POST_BOOT`: the tables of R60 and R61. -/
def PostBoot.default : PostBoot where
  dmg := .dmg
  mgb := .mgb
  sgb := .sgb
  sgb2 := .sgb2
  cgb := .cgb
  cgbCompat := .cgbCompat

/-- The table's row for a device and its mode. -/
def PostBoot.row (p : PostBoot) (device : Device) (cgbMode : Bool) : PostBootRow :=
  match device with
  | .dmg => p.dmg
  | .mgb => p.mgb
  | .sgb => p.sgb
  | .sgb2 => p.sgb2
  | .cgb => if cgbMode then p.cgb else p.cgbCompat

/-- The row of a machine's own device. -/
def Params.postBootRow (p : Params) : PostBootRow := p.postBoot.row p.device p.cgbMode

/-- The defaults of 00_scope.md R8. DESIGN CHOICE where R8 names none (notes/assumptions/1.md):
a DMG with no cartridge and no boot ROM, checksum 0, 95 T-cycles per audio sample. -/
def Params.default : Params where
  device := .dmg
  cgbMode := false
  cart := none
  postBoot := PostBoot.default
  bootRom := false
  haltBug := false
  dmaTPerByte := 1
  mode3TPerPixel := 2
  ppuAccessLock := true
  serialTPerByte := 4096
  serialFastTPerByte := 128
  serialInByte := 0xFF
  noCartChecksum := 0
  speedSwitchT := 8200
  samplePeriodT := 95

end Sys2Proof
end

