-- ==== Sys2Proof/Machine/State.lean ====
section
/-! DEFINITION. Everything the spec gives the machine, as plain data, and the state after reset. -/

namespace Sys2Proof.Machine

/-! ## How a step can stop (60_exceptions.md R360) -/

/-- The CPU registers that can be unwritten after a boot-ROM power-on (10_state.md R26). -/
inductive RegName where
  | a | f | b | c | d | e | h | l | sp
  deriving DecidableEq, Repr

/-- The causes of a fault (R360). -/
inductive FaultCause where
  /-- One of the eleven illegal opcodes (45_system.md R345), with its address. -/
  | illegalOpcode (op : Byte) (addr : Word)
  /-- A read of a register half that no instruction has written since a boot-ROM power-on (10_state.md R26). -/
  | unwrittenRegister (r : RegName)
  deriving DecidableEq, Repr

/-- The causes of a refusal of a step (R360). -/
inductive RefusalCause where
  /-- STOP outside a CGB speed switch (45_system.md R341), with the address of the STOP. -/
  | stopMode (addr : Word)
  /-- A CPU access below 0xFF00 during OAM DMA (20_memory.md R97). -/
  | dmaBusConflict (addr : Word)
  /-- A write above 0xDF to the DMA register (20_memory.md R95). -/
  | dmaSource (value : Byte)
  /-- An MBC5 RAM-enable write whose low nibble is 0xA but which is not 0x0A (20_memory.md R92). -/
  | mbc5RamEnable (value : Byte)
  /-- A CGB-mode write to 0xFF51-0xFF56 or 0xFF72-0xFF77 (10_state.md R52). -/
  | unmodelledRegister (addr : Word)
  /-- An interrupt dispatch whose high-byte push would write IE (60_exceptions.md R366), with SP. -/
  | dispatchIePush (sp : Word)
  deriving DecidableEq, Repr

/-! ## CPU (10_state.md R20 to R30) -/

/-- The interrupt master enable (R27). -/
inductive Ime where
  | disabled | enabled | pending
  deriving DecidableEq, Repr

/-- The run mode (R28). `switching n`: halted by STOP's speed switch, ignoring interrupts, for n more
CPU T-cycles (45_system.md R341). `faulted` and `refused` are never left. -/
inductive RunMode where
  | running | halted | switching (left : Nat) | faulted (cause : FaultCause) | refused (cause : RefusalCause)
  deriving DecidableEq, Repr

structure Cpu where
  a : Byte
  f : Byte
  b : Byte
  c : Byte
  d : Byte
  e : Byte
  h : Byte
  l : Byte
  sp : Word
  /-- The instruction pointer (R25). -/
  pc : Word
  ime : Ime
  run : RunMode
  /-- The next opcode fetch does not advance pc (R29). -/
  haltBug : Bool
  /-- `opcode_address` of the instruction snapshot (R30). -/
  opcodeAddr : Word
  /-- The registers no instruction has written since a boot-ROM power-on (R26). -/
  unwritten : List RegName
  deriving DecidableEq, Repr

/-! ## Devices -/

/-- IF bits 4:0 and IE (R33). -/
structure Irq where
  iflag : BitVec 5
  ie : Byte
  deriving DecidableEq, Repr

/-- `tima_state` (R53). -/
inductive TimaPhase where
  | normal | overflow | overflowProcessed
  deriving DecidableEq, Repr

structure Timer where
  /-- `div_counter` -/
  div : BitVec 16
  tima : Byte
  tma : Byte
  tac : BitVec 3
  phase : TimaPhase
  deriving DecidableEq, Repr

structure Serial where
  sb : Byte
  /-- SC bit 7 -/
  active : Bool
  /-- SC bit 1 (CGB mode) -/
  fast : Bool
  /-- SC bit 0 -/
  internal : Bool
  /-- The CPU T-cycles ticked since the write that started the running transfer (60_exceptions.md R390). -/
  elapsed : Option Nat
  /-- The bytes sent so far, the newest first: what the host has seen (70_reset_and_hazards.md R600). -/
  sent : List Byte
  deriving DecidableEq, Repr

/-- The pressed set (R58). -/
structure Buttons where
  right : Bool
  left : Bool
  up : Bool
  down : Bool
  a : Bool
  b : Bool
  select : Bool
  start : Bool
  deriving DecidableEq, Repr

structure Joypad where
  /-- P1 bits 5:4; 0 selects. -/
  select : BitVec 2
  pressed : Buttons
  /-- The previous value of P1 bits 3:0 (R58). -/
  lines : BitVec 4
  deriving DecidableEq, Repr

/-- OAM DMA (R54). -/
inductive Dma where
  | disabled
  /-- The start address, the next byte to copy (0 to 159) and the carried sub-byte T-cycles. -/
  | transferring (start : Word) (next : Nat) (rem : Nat)
  deriving DecidableEq, Repr

/-- Controller MBC1 and MBC1M registers (20_memory.md R88, R90). -/
structure Mbc1 where
  ramEnable : Bool
  bank1 : BitVec 5
  bank2 : BitVec 2
  mode : Bool
  deriving DecidableEq, Repr

/-- Controller MBC2 registers (R91). -/
structure Mbc2 where
  ramEnable : Bool
  romBank : BitVec 4
  deriving DecidableEq, Repr

/-- Controller MBC5 registers (R92). -/
structure Mbc5 where
  ramEnable : Bool
  romBank : BitVec 9
  ramBank : BitVec 4
  deriving DecidableEq, Repr

/-- Memory-system and speed state (10_state.md R57, R59, R39). The registers of the controller the
cartridge does not have are never read or written. -/
structure Bus where
  bootMapped : Bool
  /-- VBK bit 0 -/
  vramBank : BitVec 1
  /-- SVBK bits 2:0 -/
  svbk : BitVec 3
  mbc1 : Mbc1
  mbc2 : Mbc2
  mbc5 : Mbc5
  /-- KEY1 bit 0 -/
  keyArmed : Bool
  /-- KEY1 bit 7 -/
  doubleSpeed : Bool
  deriving DecidableEq, Repr

/-- The PPU modes (R55). -/
inductive PpuMode where
  | oamScan | drawLine | hBlank | vBlank
  deriving DecidableEq, Repr

/-- One framebuffer pixel before the host's colour constants: a shade and the palette it came through
(61_video_audio.md R475), or a 15-bit colour (R476). -/
inductive Pixel where
  | shade (layer : Layer) (value : BitVec 2)
  | colour (value : BitVec 15)
  deriving DecidableEq, Repr

structure Ppu where
  lcdc : Byte
  /-- STAT bits 6:3: LYC, OamScan, VBlank and HBlank source enables. -/
  statEnable : BitVec 4
  /-- STAT bit 2 -/
  coincidence : Bool
  scy : Byte
  scx : Byte
  lyc : Byte
  wy : Byte
  wx : Byte
  bgp : Byte
  obp0 : Byte
  obp1 : Byte
  /-- LY -/
  line : Nat
  /-- T-cycles into the line -/
  clock : Nat
  mode : PpuMode
  /-- `current_pixel` -/
  pixel : Nat
  /-- The cached sprite list: OAM indices in draw-priority order. -/
  sprites : List Nat
  windowLatch : Bool
  windowLine : Nat
  /-- BCPS bits 7 and 5:0 -/
  bcps : Byte
  /-- The background palette read latch. -/
  bcpd : Byte
  ocps : Byte
  ocpd : Byte
  bgPalette : Vector Byte 64
  objPalette : Vector Byte 64
  /-- OPRI bit 0 -/
  opri : Bool
  /-- The framebuffer: pixel 160 * line + column; an unlisted pixel is background shade 0. -/
  frame : List (Nat × Pixel)
  /-- VBlank entries so far: the model's own counter. -/
  frames : Nat
  deriving DecidableEq, Repr

/-- Volume envelope (61_video_audio.md R484). -/
structure Envelope where
  volume : BitVec 4
  timer : Nat
  deriving DecidableEq, Repr

/-- Frequency sweep (R483). -/
structure Sweep where
  shadow : BitVec 11
  timer : Nat
  enabled : Bool
  deriving DecidableEq, Repr

/-- Pulse generator (R485). -/
structure Pulse where
  timer : Nat
  duty : BitVec 3
  deriving DecidableEq, Repr

/-- Wave generator (R486). -/
structure Wave where
  timer : Nat
  pos : BitVec 5
  buffer : BitVec 4
  deriving DecidableEq, Repr

/-- Noise generator (R487). -/
structure Noise where
  timer : Nat
  lfsr : BitVec 15
  deriving DecidableEq, Repr

structure Apu where
  /-- NR52 bit 7 -/
  power : Bool
  on1 : Bool
  on2 : Bool
  on3 : Bool
  on4 : Bool
  nr10 : Byte
  nr11 : Byte
  nr12 : Byte
  nr13 : Byte
  nr14 : Byte
  nr21 : Byte
  nr22 : Byte
  nr23 : Byte
  nr24 : Byte
  nr30 : Byte
  nr31 : Byte
  nr32 : Byte
  nr33 : Byte
  nr34 : Byte
  nr41 : Byte
  nr42 : Byte
  nr43 : Byte
  nr44 : Byte
  nr50 : Byte
  nr51 : Byte
  len1 : Nat
  len2 : Nat
  len3 : Nat
  len4 : Nat
  env1 : Envelope
  env2 : Envelope
  env4 : Envelope
  sweep : Sweep
  pulse1 : Pulse
  pulse2 : Pulse
  wave : Wave
  noise : Noise
  /-- The frame-sequencer step the next fall performs (R481). -/
  fsStep : BitVec 3
  waveRam : Vector Byte 16
  /-- The high-pass capacitors (R491). -/
  capLeft : Rat
  capRight : Rat
  /-- Normal T-cycles since the last audio sample. -/
  sampleClock : Nat
  /-- The audio samples (left, right) made so far, the newest first: what the host reads (R600). -/
  samples : List (Rat × Rat)
  deriving DecidableEq, Repr

/-- Memory: cells in canonical form (notes/assumptions/6.md): keys strictly rising, no cell equal to what its unlisted key reads as. -/
abbrev Memory := List Host.Cell

/-- The machine. -/
structure State where
  cfg : Params
  cpu : Cpu
  irq : Irq
  timer : Timer
  serial : Serial
  joypad : Joypad
  /-- The DMA register (10_state.md R37). -/
  dmaReg : Byte
  dma : Dma
  bus : Bus
  ppu : Ppu
  apu : Apu
  mem : Memory
  /-- Normal-speed T-cycles ticked: the model's own, for `process_frame`. -/
  elapsed : Nat
  /-- Device ticks made: the model's own, the first argument of the draws of `Config`. -/
  seed : Nat
  deriving DecidableEq, Repr

/-! ## How a step stops: the cause, and the state of the M-cycle it stopped in (60_exceptions.md R360) -/

/-- The faults. Each carries the state at the faulting M-cycle: the effects and device ticks of the M-cycles before it, and run mode Faulted. -/
inductive Fault where
  /-- The eleven illegal opcodes (45_system.md R345), raised by their meanings with the opcode, its
  address and the state. Safe: the spec gives these opcodes no successor. -/
  | illegalOpcode (op : Byte) (addr : Word) (state : State)
  /-- A read of a register no instruction has written since a boot-ROM power-on (10_state.md R26, R63; 70_reset_and_hazards.md R563), raised by
  every register, pair, SP and flag read. It cannot happen after `State.reset`, where every register is written.
  Safe: 60_exceptions.md R360 lists this fault, and 93_implementation_defined.md U2 gives such a read no other treatment. -/
  | unwrittenRegister (r : RegName) (state : State)
  deriving DecidableEq, Repr

/-- The refusals, and the host's `notModelled`. Each refusal of a step carries the state at its M-cycle, with run mode Refused. -/
inductive Refusal where
  /-- An instruction that has no meaning in this model, raised by its arm of `exec` only. Safe. No arm of the present model raises it. -/
  | notModelled (mnemonic : String)
  /-- STOP outside a CGB speed switch (45_system.md R341), with the address of the STOP; raised by `execStop`. Safe. -/
  | stopMode (addr : Word) (state : State)
  /-- A CPU access below 0xFF00 during OAM DMA (20_memory.md R97), raised by every bus access. Safe. -/
  | dmaBusConflict (addr : Word) (state : State)
  /-- A write above 0xDF to the DMA register (20_memory.md R95), raised by every bus write. Safe. -/
  | dmaSource (value : Byte) (state : State)
  /-- An MBC5 RAM-enable write whose low nibble is 0xA but which is not 0x0A (20_memory.md R92), raised by every bus write. Safe. -/
  | mbc5RamEnable (value : Byte) (state : State)
  /-- A CGB-mode write to 0xFF51-0xFF56 or 0xFF72-0xFF77 (10_state.md R52), raised by every bus write. Safe. -/
  | unmodelledRegister (addr : Word) (state : State)
  /-- Construction with a recognised controller the spec does not define (20_memory.md R93), raised by `construct` only, which builds no state. Safe. -/
  | unsupportedCartridge (typeByte : Byte)
  /-- An interrupt dispatch whose high-byte push would write IE (60_exceptions.md R366), with SP; raised by `dispatchInterrupt`. Safe. -/
  | dispatchIePush (sp : Word) (state : State)
  deriving DecidableEq, Repr

/-! ## Reset (10_state.md R60 to R64) -/

/-- The post-boot CPU registers of a row of R60; `hc` is the header-checksum flag. -/
def Cpu.postBoot (row : PostBootRow) (hc : Bool) : Cpu :=
  { a := row.a, f := (if hc then row.fHc else row.f) &&& 0xF0, b := row.b, c := row.c, d := row.d, e := row.e, h := row.h, l := row.l,
    sp := row.sp, pc := row.pc, ime := .disabled, run := .running, haltBug := false, opcodeAddr := 0, unwritten := [] }

/-- The CPU at a power-on with a boot ROM (R63, R26): pc = 0x0000 and every other register unwritten.
An unwritten register holds 0, which no read can see. -/
def Cpu.powerOn : Cpu :=
  { a := 0, f := 0, b := 0, c := 0, d := 0, e := 0, h := 0, l := 0, sp := 0, pc := 0x0000, ime := .disabled, run := .running,
    haltBug := false, opcodeAddr := 0, unwritten := [.a, .f, .b, .c, .d, .e, .h, .l, .sp] }

/-- The bank and speed registers at reset, both paths (R62, 20_memory.md R88, R91, R92). -/
def Bus.initial (bootMapped : Bool) : Bus :=
  { bootMapped := bootMapped, vramBank := 0, svbk := 0,
    mbc1 := { ramEnable := false, bank1 := 1, bank2 := 0, mode := false },
    mbc2 := { ramEnable := false, romBank := 1 },
    mbc5 := { ramEnable := false, romBank := 1, ramBank := 0 },
    keyArmed := false, doubleSpeed := false }

/-- No button pressed (R62). -/
def Buttons.released : Buttons :=
  { right := false, left := false, up := false, down := false, a := false, b := false, select := false, start := false }

/-- The PPU at reset with the LCDC value given; every draw is 0 and the position is line 0, clock 0
(DESIGN CHOICE, notes/assumptions/4.md), in OamScan when the LCD is on. -/
def Ppu.initial (cfg : Params) (lcdc bgp : Byte) : Ppu :=
  { lcdc := lcdc, statEnable := 0, coincidence := true, scy := 0, scx := 0, lyc := 0, wy := 0, wx := 0,
    bgp := bgp, obp0 := 0, obp1 := 0, line := 0, clock := 0, mode := if lcdc.msb then .oamScan else .hBlank,
    pixel := 0, sprites := [], windowLatch := false, windowLine := 0,
    bcps := 0, bcpd := 0, ocps := 0, ocpd := 0,
    bgPalette := Vector.replicate 64 0, objPalette := Vector.replicate 64 0,
    opri := !cfg.cgbMode, frame := [], frames := 0 }

/-- The APU with every register 0 and every channel off; every draw is 0 (DESIGN CHOICE, notes/assumptions/4.md). -/
def Apu.initial (power : Bool) : Apu :=
  { power := power, on1 := false, on2 := false, on3 := false, on4 := false,
    nr10 := 0, nr11 := 0, nr12 := 0, nr13 := 0, nr14 := 0, nr21 := 0, nr22 := 0, nr23 := 0, nr24 := 0,
    nr30 := 0, nr31 := 0, nr32 := 0, nr33 := 0, nr34 := 0, nr41 := 0, nr42 := 0, nr43 := 0, nr44 := 0,
    nr50 := 0, nr51 := 0, len1 := 0, len2 := 0, len3 := 0, len4 := 0,
    env1 := { volume := 0, timer := 0 }, env2 := { volume := 0, timer := 0 }, env4 := { volume := 0, timer := 0 },
    sweep := { shadow := 0, timer := 0, enabled := false },
    pulse1 := { timer := 0, duty := 0 }, pulse2 := { timer := 0, duty := 0 },
    wave := { timer := 0, pos := 0, buffer := 0 }, noise := { timer := 0, lfsr := 0 },
    fsStep := 0, waveRam := Vector.replicate 16 0, capLeft := 0, capRight := 0, sampleClock := 0, samples := [] }

/-- The PPU of a post-boot row (R61, R62). -/
def Ppu.postBoot (cfg : Params) (row : PostBootRow) : Ppu :=
  { Ppu.initial cfg row.lcdc row.bgp with
    coincidence := row.lyc == 0, scy := row.scy, scx := row.scx, lyc := row.lyc, wy := row.wy, wx := row.wx }

/-- The APU of a post-boot row (R61, R62): the bits that can be read; the fields only a write reaches are draws, 0. -/
def Apu.postBoot (row : PostBootRow) : Apu :=
  { Apu.initial (row.nr52.getLsbD 7) with
    on1 := row.nr52.getLsbD 0, on2 := row.nr52.getLsbD 1, on3 := row.nr52.getLsbD 2, on4 := row.nr52.getLsbD 3,
    nr10 := row.nr10 &&& 0x7F, nr11 := row.nr11 &&& 0xC0, nr12 := row.nr12, nr14 := row.nr14 &&& 0x40,
    nr21 := row.nr21 &&& 0xC0, nr22 := row.nr22, nr24 := row.nr24 &&& 0x40,
    nr30 := row.nr30 &&& 0x80, nr32 := row.nr32 &&& 0x60, nr34 := row.nr34 &&& 0x40,
    nr42 := row.nr42, nr43 := row.nr43, nr44 := row.nr44 &&& 0x40, nr50 := row.nr50, nr51 := row.nr51 }

/-- The serial port of a post-boot row (R61, R62): no transfer. -/
def Serial.postBoot (cfg : Params) (row : PostBootRow) : Serial :=
  { sb := row.sb, active := row.sc.getLsbD 7, fast := row.sc.getLsbD 1 && cfg.cgbMode, internal := row.sc.getLsbD 0, elapsed := none, sent := [] }

/-- `initialize()` without a boot ROM (R60 to R62, R64), by the row of `POST_BOOT` for the device. `hc` is the header-checksum flag and `mem`
the memory, which holds the cartridge's ROM image. -/
def State.postBoot (cfg : Params) (hc : Bool) (mem : Memory) : State :=
  let row := cfg.postBootRow
  { cfg := cfg
    cpu := Cpu.postBoot row hc
    irq := { iflag := row.iflag.setWidth 5, ie := row.ie }
    timer := { div := row.div ++ (0 : Byte), tima := row.tima, tma := row.tma, tac := row.tac.setWidth 3, phase := .normal }
    serial := Serial.postBoot cfg row
    joypad := { select := row.p1.extractLsb' 4 2, pressed := Buttons.released, lines := 0xF }
    dmaReg := row.dma
    dma := .disabled
    bus := { Bus.initial false with
      vramBank := row.vbk.setWidth 1, svbk := row.svbk.setWidth 3, keyArmed := row.key1.getLsbD 0, doubleSpeed := row.key1.getLsbD 7 }
    ppu := Ppu.postBoot cfg row
    apu := Apu.postBoot row
    mem := mem
    elapsed := 0
    seed := 0 }

/-- `initialize()` with a boot ROM attached (R63, R64, R561). What R63 does not name, the joypad's buttons and lines among it, is a DESIGN CHOICE
(notes/assumptions/4.md). -/
def State.powerOn (cfg : Params) (mem : Memory) : State :=
  { cfg := cfg
    cpu := Cpu.powerOn
    irq := { iflag := 0, ie := 0 }
    timer := { div := 0, tima := 0, tma := 0, tac := 0, phase := .normal }
    serial := { sb := 0, active := false, fast := false, internal := false, elapsed := none, sent := [] }
    joypad := { select := 0, pressed := Buttons.released, lines := 0xF }
    dmaReg := 0
    dma := .disabled
    bus := Bus.initial true
    ppu := Ppu.initial cfg 0x00 0x00
    apu := Apu.initial false
    mem := mem
    elapsed := 0
    seed := 0 }

/-- The machine right after reset: the defaults of `Params.default`, no cartridge, no boot ROM, memory with nothing listed. -/
def State.reset : State :=
  State.postBoot Params.default (Params.default.noCartChecksum != 0) []

end Sys2Proof.Machine
end

