-- ==== Sys2Proof/Machine/Bits.lean ====
section
/-! DEFINITION. Bit-field, byte-order and sign helpers (00_scope.md R9, R10). -/

namespace Sys2Proof.Machine

/-- `v[15:8]` -/
def hiByte (v : Word) : Byte := v.extractLsb' 8 8

/-- `v[7:0]` -/
def loByte (v : Word) : Byte := v.setWidth 8

/-- `{hi, lo}` -/
def mkWord (hi lo : Byte) : Word := hi ++ lo

/-- `sext_16` (R10) -/
def sext16 (v : Byte) : Word := v.signExtend 16

/-- `zext_16` (R10) -/
def zext16 (v : Byte) : Word := v.setWidth 16

/-- A flag as a bit. -/
def bitOf (b : Bool) : BitVec 1 := BitVec.ofBool b

/-- The byte with bit `i` set and no other. -/
def bitByte (i : Nat) : Byte := 1 <<< i

/-- `0xFF00 + n` (20_memory.md R72: it never exceeds 0xFFFF). -/
def highPage (n : Byte) : Word := mkWord 0xFF n

end Sys2Proof.Machine
end

