-- ==== Sys2Proof/Machine/Memory.lean ====
section
/-! DEFINITION. Sparse stores, the layout of memory, and the canonical form (notes/assumptions/6.md). -/

namespace Sys2Proof.Machine

/-! ## Sparse stores: key and value pairs; a key without a pair reads as the default -/

/-- The value at a key. -/
def sparseRead {α : Type} (dflt : Nat → α) (k : Nat) : List (Nat × α) → α
  | [] => dflt k
  | x :: rest => if x.1 = k then x.2 else sparseRead dflt k rest

/-- Puts a pair before the first larger key. -/
def sparseInsert {α : Type} (k : Nat) (v : α) : List (Nat × α) → List (Nat × α)
  | [] => [(k, v)]
  | x :: rest => if k < x.1 then (k, v) :: x :: rest else x :: sparseInsert k v rest

/-- Takes a key out. -/
def sparseErase {α : Type} (k : Nat) (l : List (Nat × α)) : List (Nat × α) :=
  l.filter (fun x => x.1 != k)

/-- Writes a value. Writing the default takes the pair out, so equal stores are equal lists. -/
def sparseWrite {α : Type} [DecidableEq α] (dflt : Nat → α) (k : Nat) (v : α) (l : List (Nat × α)) : List (Nat × α) :=
  if v = dflt k then sparseErase k l else sparseInsert k v (sparseErase k l)

/-- The canonical form: keys strictly rising, no pair equal to the default. -/
abbrev SparseWf {α : Type} (dflt : Nat → α) (l : List (Nat × α)) : Prop :=
  l.Pairwise (fun x y => x.1 < y.1) ∧ ∀ x ∈ l, x.2 ≠ dflt x.1

/-! ## The layout: where each byte array of the machine lies among the memory's keys -/

/-- VRAM: bank n at 0x2000 * n (20_memory.md R77). -/
def vramBase : Nat := 0x00000

/-- WRAM: bank n at 0x1000 * n (R80). -/
def wramBase : Nat := 0x10000

/-- OAM (R84). -/
def oamBase : Nat := 0x20000

/-- HRAM (R84). -/
def hramBase : Nat := 0x20100

/-- Cartridge RAM (R85). -/
def cartRamBase : Nat := 0x40000

/-- The boot ROM image (R79). -/
def bootBase : Nat := 0x60000

/-- The cartridge's ROM image (R85). -/
def romBase : Nat := 0x1000000

/-- What a key no cell lists reads as: 0xFF past a ROM image's bytes (R87), 0x00 in RAM that nothing has
written (DESIGN CHOICE, notes/assumptions/6.md). -/
def unlisted (k : Nat) : Byte := if bootBase ≤ k then 0xFF else 0x00

/-- The byte at a key. -/
def Memory.read (m : Memory) (k : Nat) : Byte := sparseRead unlisted k m

/-- Memory with the byte at a key written. -/
def Memory.write (m : Memory) (k : Nat) (v : Byte) : Memory := sparseWrite unlisted k v m

/-- Memory is in canonical form. -/
abbrev Memory.wf (m : Memory) : Prop := SparseWf unlisted m

/-- Memory with a list of bytes written at rising keys. -/
def Memory.writeList (m : Memory) (k : Nat) : List Byte → Memory
  | [] => m
  | v :: rest => Memory.writeList (m.write k v) (k + 1) rest

end Sys2Proof.Machine
end

