-- ==== Sys2Proof/Machine/Cartridge.lean ====
section
/-! DEFINITION. Cartridge banking: controllers None, MBC1, MBC1M, MBC2, MBC5 (20_memory.md R85 to R93). Addresses are
naturals below 0x10000. Offsets are computed from the selection registers at every access (R88: "recomputed whenever a selection register is written"). -/

namespace Sys2Proof

open Machine

/-- The bank behind 0x0000-0x3FFF (R87, R88, R90 to R92). -/
def Cart.romBankLow (c : Cart) (b : Bus) : Nat :=
  match c.controller with
  | .mbc1 => if b.mbc1.mode then (b.mbc1.bank2.toNat <<< 5) % c.romBanks else 0
  | .mbc1m => if b.mbc1.mode then (b.mbc1.bank2.toNat <<< 4) % c.romBanks else 0
  | .plain => 0
  | .mbc2 => 0
  | .mbc5 => 0

/-- The bank behind 0x4000-0x7FFF (R87, R88, R90 to R92). -/
def Cart.romBankHigh (c : Cart) (b : Bus) : Nat :=
  match c.controller with
  | .plain => 1
  | .mbc1 => ((b.mbc1.bank2.toNat <<< 5) ||| b.mbc1.bank1.toNat) % c.romBanks
  | .mbc1m => ((b.mbc1.bank2.toNat <<< 4) ||| (b.mbc1.bank1.toNat % 16)) % c.romBanks
  | .mbc2 => b.mbc2.romBank.toNat % c.romBanks
  | .mbc5 => b.mbc5.romBank.toNat % c.romBanks

/-- The memory key of a ROM address below 0x8000. -/
def Cart.romKey (c : Cart) (b : Bus) (a : Nat) : Nat :=
  if a < 0x4000 then romBase + c.romBankLow b * 0x4000 + a
  else romBase + c.romBankHigh b * 0x4000 + (a - 0x4000)

/-- RAM exists behind the window (R86, R93). -/
def Cart.ramExists (c : Cart) : Bool := c.hasRam && c.ramSize != 0

/-- The controller has RAM enabled (R87, R88, R91, R92). -/
def Cart.ramEnabled (c : Cart) (b : Bus) : Bool :=
  match c.controller with
  | .plain => true
  | .mbc1 => b.mbc1.ramEnable
  | .mbc1m => b.mbc1.ramEnable
  | .mbc2 => b.mbc2.ramEnable
  | .mbc5 => b.mbc5.ramEnable

/-- 8 KiB RAM banks; a RAM below one bank counts as one (DESIGN CHOICE, notes/assumptions/10.md). -/
def Cart.ramBanks (c : Cart) : Nat := max 1 (c.ramSize / 0x2000)

/-- The RAM byte index of an address of 0xA000-0xBFFF (R87, R88, R91, R92), reduced modulo the RAM size. -/
def Cart.ramIndex (c : Cart) (b : Bus) (a : Nat) : Nat :=
  match c.controller with
  | .plain => (a - 0xA000) % c.ramSize
  | .mbc1 => ((if b.mbc1.mode then b.mbc1.bank2.toNat else 0) % c.ramBanks * 0x2000 + (a - 0xA000)) % c.ramSize
  | .mbc1m => ((if b.mbc1.mode then b.mbc1.bank2.toNat else 0) % c.ramBanks * 0x2000 + (a - 0xA000)) % c.ramSize
  | .mbc2 => a % 512
  | .mbc5 => (b.mbc5.ramBank.toNat % c.ramBanks * 0x2000 + (a - 0xA000)) % c.ramSize

/-- The memory key of an address of the RAM window, none where it reads 0xFF and ignores writes (R78). -/
def Cart.ramKey (c : Cart) (b : Bus) (a : Nat) : Option Nat :=
  if c.ramExists && c.ramEnabled b then some (cartRamBase + c.ramIndex b a) else none

/-- What a RAM cell reads as: MBC2 cells are half bytes under 0xF0 (R91). -/
def Cart.ramReadValue (c : Cart) (v : Byte) : Byte :=
  match c.controller with
  | .mbc2 => 0xF0 ||| (v &&& 0x0F)
  | _ => v

/-- What a RAM write stores: MBC2 stores `value & 0x0F` (R91). -/
def Cart.ramWriteValue (c : Cart) (v : Byte) : Byte :=
  match c.controller with
  | .mbc2 => v &&& 0x0F
  | _ => v

end Sys2Proof

namespace Sys2Proof.Machine

/-- MBC1: the zero test is on the 5-bit field alone (R88, R89). -/
def mbc1Bank (v : Byte) : BitVec 5 := if v.setWidth 5 = 0 then 1 else v.setWidth 5

/-- A write of MBC1 or MBC1M (R88, R90). -/
def Mbc1.write (m : Mbc1) (a : Nat) (v : Byte) : Mbc1 :=
  if a < 0x2000 then { m with ramEnable := v &&& 0x0F = 0x0A }
  else if a < 0x4000 then { m with bank1 := mbc1Bank v }
  else if a < 0x6000 then { m with bank2 := v.setWidth 2 }
  else { m with mode := v.getLsbD 0 }

/-- A write of MBC2: address bit 8 picks the register (R91). -/
def Mbc2.write (m : Mbc2) (a : Nat) (v : Byte) : Mbc2 :=
  if a < 0x4000 then
    if a / 256 % 2 = 0 then { m with ramEnable := v &&& 0x0F = 0x0A }
    else { m with romBank := if v.setWidth 4 = (0 : BitVec 4) then 1 else v.setWidth 4 }
  else m

/-- A write of MBC5 (R92). The RAM-enable value the spec refuses is refused before (`writeRefusal`). -/
def Mbc5.write (m : Mbc5) (a : Nat) (v : Byte) : Mbc5 :=
  if a < 0x2000 then { m with ramEnable := v = 0x0A }
  else if a < 0x3000 then { m with romBank := m.romBank.extractLsb' 8 1 ++ v }
  else if a < 0x4000 then { m with romBank := v.setWidth 1 ++ m.romBank.setWidth 8 }
  else if a < 0x6000 then { m with ramBank := v.setWidth 4 }
  else m

/-- The RAM-enable writes MBC5 refuses: low nibble 0xA, but not 0x0A (R92). -/
def mbc5Refuses (a : Nat) (v : Byte) : Bool := a < 0x2000 && v &&& 0x0F = 0x0A && v != 0x0A

/-- A write below 0x8000 goes to the controller (R75, R87); with no cartridge it is ignored (R76). -/
def Bus.controllerWrite (b : Bus) (cart : Option Cart) (a : Nat) (v : Byte) : Bus :=
  match cart with
  | none => b
  | some c =>
    match c.controller with
    | .plain => b
    | .mbc1 => { b with mbc1 := b.mbc1.write a v }
    | .mbc1m => { b with mbc1 := b.mbc1.write a v }
    | .mbc2 => { b with mbc2 := b.mbc2.write a v }
    | .mbc5 => { b with mbc5 := b.mbc5.write a v }

end Sys2Proof.Machine
end

