-- ==== Sys2Proof/Machine/Interrupts.lean ====
section
/-! DEFINITION. The interrupt controller (60_exceptions.md R361 to R363). -/

namespace Sys2Proof.Machine

/-- The interrupt sources, highest priority first (R363). -/
inductive Interrupt where
  | vBlank | lcdStat | timer | serial | joypad
  deriving DecidableEq, Repr

/-- The source's bit of IF and IE (R363). -/
def Interrupt.number : Interrupt → Nat
  | .vBlank => 0 | .lcdStat => 1 | .timer => 2 | .serial => 3 | .joypad => 4

/-- The IF value with the source's bit set alone. -/
def Interrupt.mask (i : Interrupt) : BitVec 5 := 1 <<< i.number

/-- The handler's address, `0x0040 + 8 * n` (R363, R366). -/
def Interrupt.vector (i : Interrupt) : Word := 0x0040 + 8 * BitVec.ofNat 16 i.number

/-- A device requests an interrupt (R361). -/
def Irq.request (q : Irq) (i : Interrupt) : Irq := { q with iflag := q.iflag ||| i.mask }

/-- A device requests an interrupt if a condition holds. -/
def Irq.requestIf (q : Irq) (c : Bool) (i : Interrupt) : Irq := if c then q.request i else q

/-- Dispatch clears the source's bit and only it (R366). -/
def Irq.acknowledge (q : Irq) (i : Interrupt) : Irq := { q with iflag := q.iflag &&& ~~~i.mask }

/-- `pending_set = IE & IF & 0x1F` (R362). -/
def Irq.pendingSet (q : Irq) : BitVec 5 := q.ie.setWidth 5 &&& q.iflag

/-- `has_interrupts_pending()` (R362); it does not look at ime. -/
def Irq.pending (q : Irq) : Bool := q.pendingSet != 0

/-- The source of the lowest set bit of `pending_set` (R363, R367). -/
def Irq.lowest (q : Irq) : Interrupt :=
  if q.pendingSet.getLsbD 0 then .vBlank
  else if q.pendingSet.getLsbD 1 then .lcdStat
  else if q.pendingSet.getLsbD 2 then .timer
  else if q.pendingSet.getLsbD 3 then .serial
  else .joypad

/-- The read value of IF: bits 7:5 read 1 (R361). -/
def Irq.readIf (q : Irq) : Byte := 0xE0 ||| q.iflag.setWidth 8

/-- A CPU write of IF stores bits 4:0 (R361). -/
def Irq.writeIf (q : Irq) (v : Byte) : Irq := { q with iflag := v.setWidth 5 }

end Sys2Proof.Machine
end

