-- ==== Sys2Proof/Machine/Ports.lean ====
section
/-! DEFINITION. The serial port (60_exceptions.md R390, R391) and the joypad (R392 to R394). -/

namespace Sys2Proof.Machine

/-! ## Serial -/

/-- `SERIAL_T_PER_BYTE` for the clock selected (R391). -/
def serialPeriod (cfg : Params) (s : Serial) : Nat :=
  if cfg.cgbMode && s.fast then cfg.serialFastTPerByte else cfg.serialTPerByte

/-- A write of SC (R390): it starts a transfer with the internal clock, and ends a running one otherwise. In non-CGB mode bit 1 keeps its stored value. -/
def Serial.writeSc (cfg : Params) (s : Serial) (v : Byte) : Serial :=
  let starts := v.getLsbD 7 && v.getLsbD 0
  { s with
    active := v.getLsbD 7
    fast := if cfg.cgbMode then v.getLsbD 1 else s.fast
    internal := v.getLsbD 0
    elapsed := if starts then some 0 else none
    sent := if starts then s.sb :: s.sent else s.sent }

/-- A read of SC: bits 6:2 read 1, and bit 1 outside CGB mode (10_state.md R36). -/
def Serial.readSc (cfg : Params) (s : Serial) : Byte :=
  bitOf s.active ++ (0x1F : BitVec 5) ++ bitOf (s.fast || !cfg.cgbMode) ++ bitOf s.internal

/-- `t` CPU T-cycles (R390): a transfer whose time is over completes. -/
def serialTick (cfg : Params) (t : Nat) (r : Serial × Irq) : Serial × Irq :=
  match r.1.elapsed with
  | none => r
  | some n =>
    if serialPeriod cfg r.1 ≤ n + t then
      ({ r.1 with sb := cfg.serialInByte, active := false, elapsed := none }, r.2.request .serial)
    else ({ r.1 with elapsed := some (n + t) }, r.2)

/-! ## Joypad -/

/-- The buttons (R394). -/
inductive Button where
  | right | left | up | down | a | b | select | start
  deriving DecidableEq, Repr

/-- The pressed set with one button changed (R394). -/
def Buttons.set (p : Buttons) (k : Button) (pressed : Bool) : Buttons :=
  match k with
  | .right => { p with right := pressed }
  | .left => { p with left := pressed }
  | .up => { p with up := pressed }
  | .down => { p with down := pressed }
  | .a => { p with a := pressed }
  | .b => { p with b := pressed }
  | .select => { p with select := pressed }
  | .start => { p with start := pressed }

/-- Right, Left, Up, Down in bits 0 to 3 (R392). -/
def Buttons.directions (p : Buttons) : BitVec 4 := bitOf p.down ++ bitOf p.up ++ bitOf p.left ++ bitOf p.right

/-- A, B, Select, Start in bits 0 to 3 (R392). -/
def Buttons.actions (p : Buttons) : BitVec 4 := bitOf p.start ++ bitOf p.select ++ bitOf p.b ++ bitOf p.a

/-- `lines`, P1 bits 3:0: a pressed button of a selected group reads 0 (R392). -/
def Joypad.inputLines (j : Joypad) : BitVec 4 :=
  ~~~((if j.select.getLsbD 0 then 0 else j.pressed.directions) ||| (if j.select.getLsbD 1 then 0 else j.pressed.actions))

/-- A read of P1 (R392). -/
def Joypad.readP1 (j : Joypad) : Byte := (3 : BitVec 2) ++ j.select ++ j.inputLines

/-- The joypad compares its lines with their previous value; any 1 to 0 requests the interrupt (R393). -/
def joypadSample (r : Joypad × Irq) : Joypad × Irq :=
  ({ r.1 with lines := r.1.inputLines }, r.2.requestIf (r.1.lines &&& ~~~r.1.inputLines != 0) .joypad)

/-- A write of P1 stores the select bits and samples the lines (R392, R393). -/
def writeP1 (r : Joypad × Irq) (v : Byte) : Joypad × Irq :=
  joypadSample ({ r.1 with select := v.extractLsb' 4 2 }, r.2)

end Sys2Proof.Machine
end

