-- ==== Sys2Proof/Machine/Ppu.lean ====
section
/-! DEFINITION. The picture processing unit (61_video_audio.md R460 to R476): the mode machine, the OAM scan, the pixel
pipeline, the palettes. It is advanced one normal T-cycle (`dot`) at a time. -/

namespace Sys2Proof.Machine

/-- The LCD and PPU are on (LCDC bit 7, 10_state.md R43). -/
def Ppu.lcdOn (p : Ppu) : Bool := p.lcdc.getLsbD 7

/-- STAT bit 3, 4, 5, 6: the HBlank, VBlank, OamScan and LYC interrupt source enables (10_state.md R44). -/
def Ppu.statHBlank (p : Ppu) : Bool := p.statEnable.getLsbD 0
def Ppu.statVBlank (p : Ppu) : Bool := p.statEnable.getLsbD 1
def Ppu.statOamScan (p : Ppu) : Bool := p.statEnable.getLsbD 2
def Ppu.statLyc (p : Ppu) : Bool := p.statEnable.getLsbD 3

/-- The mode's number in STAT bits 1:0 (R461). -/
def PpuMode.number : PpuMode → BitVec 2
  | .hBlank => 0 | .vBlank => 1 | .oamScan => 2 | .drawLine => 3

/-- LY (10_state.md R45). -/
def Ppu.ly (p : Ppu) : Byte := BitVec.ofNat 8 p.line

/-! ## Tiles and maps (R462) -/

/-- Byte `off` (from 0x8000) of a VRAM bank. -/
def vramByte (mem : Memory) (bank off : Nat) : Byte := mem.read (vramBase + 0x2000 * bank + off)

/-- Byte `field` of OAM entry `i` (R465). -/
def oamByte (mem : Memory) (i field : Nat) : Byte := mem.read (oamBase + 4 * i + field)

/-- The colour index of column `col` (0 is left) of row `row` of the tile at VRAM offset `tile`. -/
def tilePixel (mem : Memory) (bank tile row col : Nat) : BitVec 2 :=
  bitOf ((vramByte mem bank (tile + 2 * row + 1)).getLsbD (7 - col)) ++ bitOf ((vramByte mem bank (tile + 2 * row)).getLsbD (7 - col))

/-- The VRAM offset of a background or window tile (LCDC bit 4: unsigned from 0x8000, else signed from 0x9000). -/
def backgroundTile (p : Ppu) (index : Byte) : Nat :=
  if p.lcdc.getLsbD 4 then 16 * index.toNat
  else if index.toNat < 128 then 0x1000 + 16 * index.toNat
  else 16 * index.toNat

/-- A background or window pixel: its colour index and, in CGB mode, its map attributes (else 0). -/
structure MapPixel where
  index : BitVec 2
  attr : Byte
  deriving DecidableEq, Repr

/-- The pixel at (x, y) of a 32 x 32 tile map, 256 pixels each way (R462, R463). -/
def mapPixel (cfg : Params) (p : Ppu) (mem : Memory) (highMap : Bool) (x y : Nat) : MapPixel :=
  let entry := (if highMap then 0x1C00 else 0x1800) + 32 * (y / 8) + x / 8
  let attr := if cfg.cgbMode then vramByte mem 1 entry else 0
  let row := if attr.getLsbD 6 then 7 - y % 8 else y % 8
  let col := if attr.getLsbD 5 then 7 - x % 8 else x % 8
  { index := tilePixel mem (if attr.getLsbD 3 then 1 else 0) (backgroundTile p (vramByte mem 0 entry)) row col, attr := attr }

/-- The window's column `X + 7 - WX` (R464), free where it would be negative (notes/assumptions/11.md). -/
def windowColumn (p : Ppu) (x : Nat) : Nat :=
  if p.wx.toNat ≤ x + 7 then x + 7 - p.wx.toNat else Config.windowColumn x p.wx % 256

/-- The background-or-window pixel of screen column x (R463, R464). Outside CGB mode LCDC bit 0 = 0 blanks both. -/
def backgroundPixel (cfg : Params) (p : Ppu) (mem : Memory) (x : Nat) : MapPixel :=
  if !cfg.cgbMode && !p.lcdc.getLsbD 0 then { index := 0, attr := 0 }
  else if p.windowLatch then
    mapPixel cfg p mem (p.lcdc.getLsbD 6) (windowColumn p x) p.windowLine
  else
    mapPixel cfg p mem (p.lcdc.getLsbD 3) ((p.scx.toNat + x) % 256) ((p.scy.toNat + p.line) % 256)

/-! ## Objects (R465 to R467) -/

/-- The object height (LCDC bit 2). -/
def Ppu.objHeight (p : Ppu) : Nat := if p.lcdc.getLsbD 2 then 16 else 8

/-- OAM entry `i` intersects the line: `Y ≤ LY + 16 < Y + height` (R466). -/
def spriteOnLine (p : Ppu) (mem : Memory) (i : Nat) : Bool :=
  (oamByte mem i 0).toNat ≤ p.line + 16 && p.line + 16 < (oamByte mem i 0).toNat + p.objHeight

/-- Puts an entry after every entry whose X is not larger: one step of the stable sort by X (R466). -/
def insertByX (mem : Memory) (i : Nat) : List Nat → List Nat
  | [] => [i]
  | j :: rest =>
    if (oamByte mem i 1).toNat < (oamByte mem j 1).toNat then i :: j :: rest else j :: insertByX mem i rest

/-- The stable sort by ascending X. -/
def sortByX (mem : Memory) (l : List Nat) : List Nat :=
  l.foldl (fun sorted i => insertByX mem i sorted) []

/-- The OAM scan (R466): the first ten entries on the line, X-sorted when the object-priority bit asks for it; outside CGB mode always. -/
def oamScan (cfg : Params) (p : Ppu) (mem : Memory) : List Nat :=
  let selected := ((List.range 40).filter (spriteOnLine p mem)).take 10
  if p.opri || !cfg.cgbMode then sortByX mem selected else selected

/-- An object pixel: its colour index and its OAM attributes. -/
structure ObjPixel where
  index : BitVec 2
  attr : Byte
  deriving DecidableEq, Repr

/-- The row `LY + 16 - objY` of an object (R467), free where the object does not cross the line (notes/assumptions/11.md). -/
def objectRow (p : Ppu) (objY : Byte) : Nat :=
  if objY.toNat ≤ p.line + 16 && p.line + 16 < objY.toNat + p.objHeight then p.line + 16 - objY.toNat
  else Config.objectRow p.line objY % p.objHeight

/-- The pixel of object `i` at screen column x, none where it does not cover x (R467). -/
def objectPixelOf (cfg : Params) (p : Ppu) (mem : Memory) (x i : Nat) : Option ObjPixel :=
  let objX := (oamByte mem i 1).toNat
  if objX ≤ x + 8 && x < objX then
    let attr := oamByte mem i 3
    let index := oamByte mem i 2
    let line := objectRow p (oamByte mem i 0)
    let row := if attr.getLsbD 6 then p.objHeight - 1 - line else line
    let col := if attr.getLsbD 5 then 7 - (x + 8 - objX) else x + 8 - objX
    let tile := if p.lcdc.getLsbD 2 then (index &&& 0xFE).toNat + row / 8 else index.toNat
    let bank := if cfg.cgbMode && attr.getLsbD 3 then 1 else 0
    some { index := tilePixel mem bank (16 * tile) (row % 8) col, attr := attr }
  else none

/-- The first non-transparent object pixel in list order (R467). -/
def firstOpaque (cfg : Params) (p : Ppu) (mem : Memory) (x : Nat) : List Nat → Option ObjPixel
  | [] => none
  | i :: rest =>
    match objectPixelOf cfg p mem x i with
    | some o => if o.index = 0 then firstOpaque cfg p mem x rest else some o
    | none => firstOpaque cfg p mem x rest

/-- The object pixel of column x; none with LCDC bit 1 = 0 (R467). -/
def objectPixel (cfg : Params) (p : Ppu) (mem : Memory) (x : Nat) : Option ObjPixel :=
  if p.lcdc.getLsbD 1 then firstOpaque cfg p mem x p.sprites else none

/-! ## Colours (R470, R475, R476) -/

/-- A byte of a palette RAM. -/
def paletteByte (ram : Vector Byte 64) (i : BitVec 6) : Byte := ram[i.toNat]'i.isLt

/-- A palette RAM with one byte written. -/
def paletteSet (ram : Vector Byte 64) (i : BitVec 6) (v : Byte) : Vector Byte 64 := ram.set i.toNat v i.isLt

/-- Colour `c` of palette `n`: the little-endian word at byte 8n + 2c, bit 15 ignored (R476). -/
def paletteColour (ram : Vector Byte 64) (n : BitVec 3) (c : BitVec 2) : BitVec 15 :=
  (mkWord (paletteByte ram (n ++ c ++ (1 : BitVec 1))) (paletteByte ram (n ++ c ++ (0 : BitVec 1)))).setWidth 15

/-- The shade of colour index `i` in a DMG palette register (R475). -/
def paletteShade (reg : Byte) (i : BitVec 2) : BitVec 2 := (reg >>> (2 * i.toNat)).setWidth 2

def backgroundColour (cfg : Params) (p : Ppu) (m : MapPixel) : Pixel :=
  if cfg.cgbMode then .colour (paletteColour p.bgPalette (m.attr.setWidth 3) m.index)
  else .shade .background (paletteShade p.bgp m.index)

def objectColour (cfg : Params) (p : Ppu) (o : ObjPixel) : Pixel :=
  if cfg.cgbMode then .colour (paletteColour p.objPalette (o.attr.setWidth 3) o.index)
  else if o.attr.getLsbD 4 then .shade .object1 (paletteShade p.obp1 o.index)
  else .shade .object0 (paletteShade p.obp0 o.index)

/-- The background wins over an opaque object pixel (R470): master priority is not in effect, a priority bit is set, and the background is opaque. -/
def backgroundWins (cfg : Params) (p : Ppu) (m : MapPixel) (o : ObjPixel) : Bool :=
  !(cfg.cgbMode && !p.lcdc.getLsbD 0) && ((cfg.cgbMode && m.attr.getLsbD 7) || o.attr.getLsbD 7) && m.index != 0

/-- The pixel of screen column x (R470). -/
def pixelColour (cfg : Params) (p : Ppu) (mem : Memory) (x : Nat) : Pixel :=
  let m := backgroundPixel cfg p mem x
  match objectPixel cfg p mem x with
  | some o => if backgroundWins cfg p m o then backgroundColour cfg p m else objectColour cfg p o
  | none => backgroundColour cfg p m

/-! ## The framebuffer (R460, R473) -/

/-- What a pixel never drawn holds. -/
def blankPixel (_ : Nat) : Pixel := .shade .background 0

/-- The framebuffer's pixel at column x of a line. -/
def Ppu.framePixel (p : Ppu) (line x : Nat) : Pixel := sparseRead blankPixel (160 * line + x) p.frame

/-! ## The mode machine (R461, R464, R468, R469, R471, R474) -/

/-- The pair the PPU changes: its own state and the interrupt requests. -/
abbrev PpuIrq := Ppu × Irq

/-- The coincidence check of a line transition (R469). -/
def checkCoincidence (r : PpuIrq) : PpuIrq :=
  let eq := r.1.ly = r.1.lyc
  ({ r.1 with coincidence := eq }, r.2.requestIf (eq && r.1.statLyc) .lcdStat)

/-- Enters OamScan (R468). -/
def enterOamScan (r : PpuIrq) : PpuIrq :=
  ({ r.1 with mode := .oamScan }, r.2.requestIf r.1.statOamScan .lcdStat)

/-- Enters HBlank (R468). -/
def enterHBlank (r : PpuIrq) : PpuIrq :=
  ({ r.1 with mode := .hBlank }, r.2.requestIf r.1.statHBlank .lcdStat)

/-- Enters VBlank: the VBlank interrupt always, the LCD-STAT interrupt if its source is enabled (R468). -/
def enterVBlank (r : PpuIrq) : PpuIrq :=
  ({ r.1 with mode := .vBlank, frames := r.1.frames + 1 }, (r.2.request .vBlank).requestIf r.1.statVBlank .lcdStat)

/-- Enters DrawLine: the sprite list is fixed, no interrupt (R466, R468, R474). -/
def enterDrawLine (cfg : Params) (mem : Memory) (r : PpuIrq) : PpuIrq :=
  ({ r.1 with mode := .drawLine, pixel := 0, sprites := oamScan cfg r.1 mem }, r.2)

/-- The line after LY (R461). -/
def nextLine (line : Nat) : Nat := if 153 ≤ line then 0 else line + 1

/-- The window line counter at the end of a line (R471). -/
def nextWindowLine (p : Ppu) : Nat :=
  if nextLine p.line = 0 then 0
  else if p.line < 144 && p.windowLatch then p.windowLine + 1
  else p.windowLine

/-- The mode entry at clock 0 of a line (R461): VBlank self-loops after line 144. -/
def enterLine (r : PpuIrq) : PpuIrq :=
  if r.1.line < 144 then enterOamScan r
  else if r.1.line = 144 then enterVBlank r
  else r

/-- Clock 456: the next line begins (R461, R464, R469, R471). -/
def beginNextLine (r : PpuIrq) : PpuIrq :=
  checkCoincidence (enterLine
    ({ r.1 with
        clock := 0, line := nextLine r.1.line, windowLine := nextWindowLine r.1, windowLatch := false, pixel := 0, sprites := [] }, r.2))

/-- The window latch condition (R464). -/
def windowReached (p : Ppu) : Bool :=
  p.lcdc.getLsbD 5 && p.wx.toNat ≤ p.pixel + 7 && p.wy.toNat ≤ p.line

/-- One T-cycle of DrawLine: the window latch, then the pixel whose instant this is (R464, R473, R474). That `current_pixel` counts on to 160 after
pixel 159 and keeps it until the next line is a DESIGN CHOICE (notes/assumptions/33.md). -/
def drawDot (cfg : Params) (mem : Memory) (p : Ppu) : Ppu :=
  let p := { p with windowLatch := p.windowLatch || windowReached p }
  if p.clock + 1 = 80 + cfg.mode3TPerPixel * (p.pixel + 1) then
    { p with
      frame := sparseWrite blankPixel (160 * p.line + p.pixel) (pixelColour cfg p mem p.pixel) p.frame
      pixel := p.pixel + 1 }
  else p

/-- One T-cycle inside a visible line, the clock already advanced (R461). Where `MODE3_T_PER_PIXEL` is 3 or more the line ends in DrawLine;
where it is 0 DrawLine is entered and left at clock 80 and no pixel is drawn (DESIGN CHOICE, notes/assumptions/30.md). -/
def visibleDot (cfg : Params) (mem : Memory) (r : PpuIrq) : PpuIrq :=
  if r.1.clock < 80 then r
  else
    let r := if r.1.clock = 80 then enterDrawLine cfg mem r else r
    if r.1.clock < 80 + 160 * cfg.mode3TPerPixel then (drawDot cfg mem r.1, r.2)
    else if r.1.clock = 80 + 160 * cfg.mode3TPerPixel then enterHBlank r
    else r

/-- One normal T-cycle; nothing with the LCD off (R472). -/
def ppuDot (cfg : Params) (mem : Memory) (r : PpuIrq) : PpuIrq :=
  if !r.1.lcdOn then r
  else if r.1.clock + 1 = 456 then beginNextLine r
  else
    let r : PpuIrq := ({ r.1 with clock := r.1.clock + 1 }, r.2)
    if r.1.line < 144 then visibleDot cfg mem r else r

/-- `n` normal T-cycles. -/
def ppuRun (cfg : Params) (mem : Memory) : Nat → PpuIrq → PpuIrq
  | 0, r => r
  | n + 1, r => ppuRun cfg mem n (ppuDot cfg mem r)

/-! ## Registers (10_state.md R41 to R46) -/

/-- A read of STAT: bit 7 reads 1; the mode reads 0 while the LCD is off (10_state.md R44, R472). -/
def Ppu.readStat (p : Ppu) : Byte :=
  (1 : BitVec 1) ++ p.statEnable ++ bitOf p.coincidence ++ (if p.lcdOn then p.mode.number else 0)

/-- A write of STAT stores bits 6:3 and raises nothing (R469). -/
def Ppu.writeStat (p : Ppu) (v : Byte) : Ppu := { p with statEnable := v.extractLsb' 3 4 }

/-- A write of LYC updates the coincidence bit at once and raises nothing (R469). -/
def Ppu.writeLyc (p : Ppu) (v : Byte) : Ppu := { p with lyc := v, coincidence := p.ly = v }

/-- The LCD goes off (R472): line 0, clock 0, mode 0. -/
def lcdOff (r : PpuIrq) : PpuIrq :=
  ({ r.1 with line := 0, clock := 0, mode := .hBlank, pixel := 0, sprites := [], windowLatch := false, windowLine := 0 }, r.2)

/-- The LCD goes on (R472): line 0, clock 0 in OamScan, an entry of that mode (R468; notes/assumptions/12.md), with the coincidence check made now. -/
def lcdStart (r : PpuIrq) : PpuIrq :=
  checkCoincidence (enterOamScan
    ({ r.1 with line := 0, clock := 0, pixel := 0, sprites := [], windowLatch := false, windowLine := 0 }, r.2))

/-- A write of LCDC (R472). -/
def writeLcdc (r : PpuIrq) (v : Byte) : PpuIrq :=
  let r' : PpuIrq := ({ r.1 with lcdc := v }, r.2)
  if r.1.lcdOn && !r'.1.lcdOn then lcdOff r'
  else if !r.1.lcdOn && r'.1.lcdOn then lcdStart r'
  else r'

/-- The index of a palette pointer register (10_state.md R41). -/
def paletteIndex (pointer : Byte) : BitVec 6 := pointer.setWidth 6

/-- The pointer after a data write: bits 5:0 advance modulo 64 if bit 7 is set (R476). -/
def palettePointerNext (pointer : Byte) : Byte :=
  if pointer.getLsbD 7 then (2 : BitVec 2) ++ (paletteIndex pointer + 1) else pointer

/-- A write of BCPS stores bits 7 and 5:0 and latches the byte at the new index (R476). -/
def Ppu.writeBcps (p : Ppu) (v : Byte) : Ppu :=
  { p with bcps := v &&& 0xBF, bcpd := paletteByte p.bgPalette (paletteIndex v) }

/-- A write of BCPD (R476): the byte, the auto-increment, the latch. -/
def Ppu.writeBcpd (p : Ppu) (v : Byte) : Ppu :=
  let ram := paletteSet p.bgPalette (paletteIndex p.bcps) v
  let pointer := palettePointerNext p.bcps
  { p with bgPalette := ram, bcps := pointer, bcpd := paletteByte ram (paletteIndex pointer) }

/-- A write of OCPS (R476). -/
def Ppu.writeOcps (p : Ppu) (v : Byte) : Ppu :=
  { p with ocps := v &&& 0xBF, ocpd := paletteByte p.objPalette (paletteIndex v) }

/-- A write of OCPD (R476). -/
def Ppu.writeOcpd (p : Ppu) (v : Byte) : Ppu :=
  let ram := paletteSet p.objPalette (paletteIndex p.ocps) v
  let pointer := palettePointerNext p.ocps
  { p with objPalette := ram, ocps := pointer, ocpd := paletteByte ram (paletteIndex pointer) }

end Sys2Proof.Machine
end

