-- ==== Sys2Proof/Machine/Apu.lean ====
section
/-! DEFINITION. The audio processing unit (61_video_audio.md R480 to R491): channels, frame sequencer, registers, output.
It is advanced one normal T-cycle at a time; the frame sequencer is stepped by the timer (R581). -/

namespace Sys2Proof.Machine

/-! ## Register fields (10_state.md R47 to R51) -/

/-- The 11-bit wavelength in NRx3 and NRx4. -/
def wavelengthOf (lo hi : Byte) : BitVec 11 := hi.setWidth 3 ++ lo

def Apu.wavelength1 (a : Apu) : BitVec 11 := wavelengthOf a.nr13 a.nr14
def Apu.wavelength2 (a : Apu) : BitVec 11 := wavelengthOf a.nr23 a.nr24
def Apu.wavelength3 (a : Apu) : BitVec 11 := wavelengthOf a.nr33 a.nr34

/-- The DACs (R488): on iff NRx2[7:3] is not 0; channel 3 by NR30 bit 7. -/
def dacOn (nrx2 : Byte) : Bool := nrx2 &&& 0xF8 != 0
def Apu.dac1 (a : Apu) : Bool := dacOn a.nr12
def Apu.dac2 (a : Apu) : Bool := dacOn a.nr22
def Apu.dac3 (a : Apu) : Bool := a.nr30.getLsbD 7
def Apu.dac4 (a : Apu) : Bool := dacOn a.nr42

/-- NR10: sweep pace, direction, shift (R483). -/
def Apu.sweepPace (a : Apu) : Nat := (a.nr10.extractLsb' 4 3).toNat
def Apu.sweepDown (a : Apu) : Bool := a.nr10.getLsbD 3
def Apu.sweepShift (a : Apu) : Nat := (a.nr10.setWidth 3).toNat

/-! ## Length timers (R482) -/

/-- A length tick of one channel: its next counter and enabled flag, for NRx4's length enable. -/
def lengthTick (nrx4 : Byte) (len : Nat) (on : Bool) : Nat × Bool :=
  if nrx4.getLsbD 6 && len != 0 then (len - 1, on && len != 1) else (len, on)

/-- The counter after a trigger: a zero counter is reloaded. -/
def lengthTrigger (full len : Nat) : Nat := if len = 0 then full else len

/-- The length timers of all four channels. -/
def Apu.tickLengths (a : Apu) : Apu :=
  let r1 := lengthTick a.nr14 a.len1 a.on1
  let r2 := lengthTick a.nr24 a.len2 a.on2
  let r3 := lengthTick a.nr34 a.len3 a.on3
  let r4 := lengthTick a.nr44 a.len4 a.on4
  { a with len1 := r1.1, on1 := r1.2, len2 := r2.1, on2 := r2.2, len3 := r3.1, on3 := r3.2, len4 := r4.1, on4 := r4.2 }

/-! ## Frequency sweep (R483) -/

/-- `shadow ± (shadow >> shift)`, exact. -/
def Apu.sweepNew (a : Apu) (shadow : BitVec 11) : Nat :=
  if a.sweepDown then shadow.toNat - shadow.toNat >>> a.sweepShift
  else shadow.toNat + shadow.toNat >>> a.sweepShift

/-- The sweep timer's reload value. -/
def Apu.sweepReload (a : Apu) : Nat := if a.sweepPace = 0 then 8 else a.sweepPace

/-- The sweep's part of a trigger. -/
def Apu.sweepTrigger (a : Apu) : Sweep :=
  { shadow := a.wavelength1, timer := a.sweepReload, enabled := a.sweepPace != 0 || a.sweepShift != 0 }

/-- The overflow check on trigger: DisableChannel. -/
def Apu.sweepTriggerOverflow (a : Apu) : Bool := a.sweepShift != 0 && 2047 < a.sweepNew a.wavelength1

/-- The sweep's recomputation when its timer runs out. -/
def Apu.sweepRecompute (a : Apu) : Apu :=
  if a.sweep.enabled && a.sweepPace != 0 then
    let new := a.sweepNew a.sweep.shadow
    if 2047 < new then { a with on1 := false }
    else if a.sweepShift = 0 then a
    else
      let w := BitVec.ofNat 11 new
      { a with
        sweep := { a.sweep with shadow := w }
        nr13 := w.setWidth 8
        nr14 := (a.nr14 &&& 0xF8) ||| (w.extractLsb' 8 3).setWidth 8
        on1 := a.on1 && !(2047 < a.sweepNew w) }
  else a

/-- A sweep tick. That the recomputation runs only in the tick in which the timer runs out, not in every tick, is the model's reading of R483
(DEDUCED, notes/assumptions/34.md). -/
def Apu.tickSweep (a : Apu) : Apu :=
  if a.sweep.timer ≤ 1 then
    Apu.sweepRecompute { a with sweep := { a.sweep with timer := a.sweepReload } }
  else { a with sweep := { a.sweep with timer := a.sweep.timer - 1 } }

/-! ## Volume envelopes (R484) -/

/-- NRx2's envelope pace. -/
def envelopePace (nrx2 : Byte) : Nat := (nrx2.setWidth 3).toNat

/-- One step of the volume: up if NRx2 bit 3, saturating at 15 and 0. -/
def stepVolume (nrx2 : Byte) (v : BitVec 4) : BitVec 4 :=
  if nrx2.getLsbD 3 then (if v = 15 then v else v + 1) else (if v = 0 then v else v - 1)

/-- The envelope timer less one, free where it was 0 (notes/assumptions/14.md). -/
def envelopeCount (nrx2 : Byte) (timer : Nat) : Nat := if timer = 0 then Config.envelopeBelowZero nrx2 else timer - 1

/-- An envelope tick. -/
def envelopeTick (nrx2 : Byte) (e : Envelope) : Envelope :=
  if envelopePace nrx2 = 0 then e
  else if envelopeCount nrx2 e.timer = 0 then { volume := stepVolume nrx2 e.volume, timer := envelopePace nrx2 }
  else { e with timer := envelopeCount nrx2 e.timer }

/-- The envelope's part of a trigger. -/
def envelopeTrigger (nrx2 : Byte) : Envelope := { volume := nrx2.extractLsb' 4 4, timer := envelopePace nrx2 }

/-- The envelopes of channels 1, 2 and 4. -/
def Apu.tickEnvelopes (a : Apu) : Apu :=
  { a with env1 := envelopeTick a.nr12 a.env1, env2 := envelopeTick a.nr22 a.env2, env4 := envelopeTick a.nr42 a.env4 }

/-! ## Frame sequencer (R481) -/

/-- One step: lengths on 0, 2, 4, 6; sweep on 2 and 6; envelopes on 7. Stopped while the APU is off (R490). -/
def Apu.frameStep (a : Apu) : Apu :=
  if !a.power then a
  else
    let a1 := if a.fsStep.getLsbD 0 then a else a.tickLengths
    let a2 := if a.fsStep = 2 || a.fsStep = 6 then a1.tickSweep else a1
    let a3 := if a.fsStep = 7 then a2.tickEnvelopes else a2
    { a3 with fsStep := a.fsStep + 1 }

/-! ## Generators (R485 to R487): one normal T-cycle each -/

/-- The pulse period in T-cycles. -/
def pulsePeriod (w : BitVec 11) : Nat := (2048 - w.toNat) * 4

/-- A pulse generator: a wavelength written in mid-period counts from the next reload (DESIGN CHOICE, notes/assumptions/29.md). -/
def pulseDot (w : BitVec 11) (p : Pulse) : Pulse :=
  if p.timer ≤ 1 then { timer := pulsePeriod w, duty := p.duty + 1 } else { p with timer := p.timer - 1 }

/-- The wave period in T-cycles. -/
def wavePeriod (w : BitVec 11) : Nat := (2048 - w.toNat) * 2

/-- A byte of wave RAM. -/
def waveByte (ram : Vector Byte 16) (i : BitVec 4) : Byte := ram[i.toNat]'i.isLt

/-- Wave RAM with one byte written. -/
def waveSet (ram : Vector Byte 16) (i : BitVec 4) (v : Byte) : Vector Byte 16 := ram.set i.toNat v i.isLt

/-- Sample k: the high nibble of byte k/2 for even k, the low nibble for odd k. -/
def waveSample (ram : Vector Byte 16) (k : BitVec 5) : BitVec 4 :=
  if k.getLsbD 0 then (waveByte ram (k.extractLsb' 1 4)).setWidth 4
  else (waveByte ram (k.extractLsb' 1 4)).extractLsb' 4 4

/-- The wave generator; its period as `pulseDot`'s (DESIGN CHOICE, notes/assumptions/29.md). -/
def waveDot (ram : Vector Byte 16) (w : BitVec 11) (v : Wave) : Wave :=
  if v.timer ≤ 1 then { timer := wavePeriod w, pos := v.pos + 1, buffer := waveSample ram (v.pos + 1) }
  else { v with timer := v.timer - 1 }

/-- NR43: clock shift s, width, divider r. -/
def noiseShift (nr43 : Byte) : Nat := (nr43.extractLsb' 4 4).toNat
def noiseDivider (nr43 : Byte) : Nat := (nr43.setWidth 3).toNat

/-- The noise period in T-cycles: `(r = 0 ? 8 : 16 * r) << s`. -/
def noisePeriod (nr43 : Byte) : Nat :=
  (if noiseDivider nr43 = 0 then 8 else 16 * noiseDivider nr43) <<< noiseShift nr43

/-- One LFSR step. -/
def lfsrStep (narrow : Bool) (x : BitVec 15) : BitVec 15 :=
  let bit := bitOf (x.getLsbD 0 ^^ x.getLsbD 1)
  let shifted : BitVec 15 := bit ++ x.extractLsb' 1 14
  if narrow then shifted.extractLsb' 7 8 ++ bit ++ shifted.setWidth 6 else shifted

/-- The noise generator; its period as `pulseDot`'s (DESIGN CHOICE, notes/assumptions/29.md). -/
def noiseDot (nr43 : Byte) (n : Noise) : Noise :=
  if n.timer ≤ 1 then
    { timer := noisePeriod nr43, lfsr := if 14 ≤ noiseShift nr43 then n.lfsr else lfsrStep (nr43.getLsbD 3) n.lfsr }
  else { n with timer := n.timer - 1 }

/-! ## Output (R485 to R488, R491) -/

/-- The duty patterns, position 0 leftmost. -/
def dutyPattern (d : BitVec 2) : Byte :=
  match d.toNat with
  | 0 => 0b00000001
  | 1 => 0b10000001
  | 2 => 0b10000111
  | _ => 0b01111110

/-- The pulse's output bit at a duty position. -/
def dutyBit (nrx1 : Byte) (pos : BitVec 3) : Bool := (dutyPattern (nrx1.extractLsb' 6 2)).getLsbD (7 - pos.toNat)

/-- The digital samples, 0 to 15; a disabled channel gives 0 (R489). -/
def Apu.digital1 (a : Apu) : BitVec 4 := if a.on1 && dutyBit a.nr11 a.pulse1.duty then a.env1.volume else 0
def Apu.digital2 (a : Apu) : BitVec 4 := if a.on2 && dutyBit a.nr21 a.pulse2.duty then a.env2.volume else 0
def Apu.digital4 (a : Apu) : BitVec 4 := if a.on4 && !a.noise.lfsr.getLsbD 0 then a.env4.volume else 0

/-- NR32's output shift: 4 (mute), 0, 1, 2. -/
def waveShift (nr32 : Byte) : Nat :=
  match (nr32.extractLsb' 5 2).toNat with
  | 0 => 4
  | n => n - 1

def Apu.digital3 (a : Apu) : BitVec 4 := if a.on3 then a.wave.buffer >>> waveShift a.nr32 else 0

/-- The DAC: silence when it is off, never the raw value (R488). -/
def dacOutput (on : Bool) (digital : BitVec 4) : Rat := if on then Config.dacCurve digital else 0

/-- One channel's share of one side (NR51). -/
def panned (on : Bool) (x : Rat) : Rat := if on then x else 0

/-- One side's mix: the NR51 bits from `base` up, times `vol + 1` (NR50). -/
def Apu.mixSide (a : Apu) (base volume : Nat) : Rat :=
  (panned (a.nr51.getLsbD base) (dacOutput a.dac1 a.digital1)
    + panned (a.nr51.getLsbD (base + 1)) (dacOutput a.dac2 a.digital2)
    + panned (a.nr51.getLsbD (base + 2)) (dacOutput a.dac3 a.digital3)
    + panned (a.nr51.getLsbD (base + 3)) (dacOutput a.dac4 a.digital4)) * ((volume + 1 : Nat) : Rat)

def Apu.mixLeft (a : Apu) : Rat := a.mixSide 4 (a.nr50.extractLsb' 4 3).toNat
def Apu.mixRight (a : Apu) : Rat := a.mixSide 0 (a.nr50.setWidth 3).toNat

/-- One audio sample: the mix through the high-pass filter of each side (R491). The filter comes after the mix and the volume of its side and steps once
a sample (DESIGN CHOICE, notes/assumptions/20.md). -/
def Apu.takeSample (cfg : Params) (a : Apu) : Apu :=
  { a with
    samples := (Config.highPassOut cfg.device a.mixLeft a.capLeft, Config.highPassOut cfg.device a.mixRight a.capRight) :: a.samples
    capLeft := Config.highPassCap cfg.device a.mixLeft a.capLeft
    capRight := Config.highPassCap cfg.device a.mixRight a.capRight
    sampleClock := 0 }

/-- The sample clock: one normal T-cycle. -/
def Apu.sampleDot (cfg : Params) (a : Apu) : Apu :=
  if cfg.samplePeriodT = 0 then a
  else if cfg.samplePeriodT ≤ a.sampleClock + 1 then Apu.takeSample cfg a
  else { a with sampleClock := a.sampleClock + 1 }

/-- The four generators; stopped while the APU is off (R490). -/
def Apu.generatorDot (a : Apu) : Apu :=
  if !a.power then a
  else
    { a with
      pulse1 := pulseDot a.wavelength1 a.pulse1
      pulse2 := pulseDot a.wavelength2 a.pulse2
      wave := waveDot a.waveRam a.wavelength3 a.wave
      noise := noiseDot a.nr43 a.noise }

/-- One normal T-cycle. -/
def Apu.dot (cfg : Params) (a : Apu) : Apu := Apu.sampleDot cfg a.generatorDot

/-- `n` normal T-cycles. -/
def apuRun (cfg : Params) : Nat → Apu → Apu
  | 0, a => a
  | n + 1, a => apuRun cfg n (Apu.dot cfg a)

/-! ## Triggers (R489): length, sweep, envelope, generator, in that order. The register is already written. -/

def Apu.trigger1 (a : Apu) : Apu :=
  { a with
    len1 := lengthTrigger 64 a.len1
    sweep := a.sweepTrigger
    env1 := envelopeTrigger a.nr12
    pulse1 := { a.pulse1 with timer := pulsePeriod a.wavelength1 }
    on1 := a.dac1 && !a.sweepTriggerOverflow }

def Apu.trigger2 (a : Apu) : Apu :=
  { a with
    len2 := lengthTrigger 64 a.len2
    env2 := envelopeTrigger a.nr22
    pulse2 := { a.pulse2 with timer := pulsePeriod a.wavelength2 }
    on2 := a.dac2 }

/-- Wave RAM after a trigger: on a device other than a CGB, retriggering a running channel 3 makes every byte a draw (R486). -/
def Apu.retriggeredRam (cfg : Params) (seed : Nat) (a : Apu) : Vector Byte 16 :=
  if a.on3 && cfg.device != .cgb then Vector.ofFn (fun i => Config.waveRamCorruption seed (BitVec.ofNat 4 i.val)) else a.waveRam

/-- A trigger of channel 3 (R486). That it reloads the period timer too, as R485 has it for the pulse channels, is a DESIGN CHOICE (notes/assumptions/29.md). -/
def Apu.trigger3 (cfg : Params) (seed : Nat) (a : Apu) : Apu :=
  let ram := Apu.retriggeredRam cfg seed a
  { a with
    len3 := lengthTrigger 256 a.len3
    waveRam := ram
    wave := { timer := wavePeriod a.wavelength3, pos := 0, buffer := waveSample ram 0 }
    on3 := a.dac3 }

/-- A trigger of channel 4 (R487). That it reloads the period timer too is a DESIGN CHOICE (notes/assumptions/29.md). -/
def Apu.trigger4 (a : Apu) : Apu :=
  { a with
    len4 := lengthTrigger 64 a.len4
    env4 := envelopeTrigger a.nr42
    noise := { timer := noisePeriod a.nr43, lfsr := 0x7FFF }
    on4 := a.dac4 }

/-! ## Register writes -/

/-- Power off (R490): 0xFF10-0xFF25 are cleared and every channel stops; wave RAM stays. -/
def Apu.powerOff (a : Apu) : Apu :=
  { a with
    power := false, on1 := false, on2 := false, on3 := false, on4 := false,
    nr10 := 0, nr11 := 0, nr12 := 0, nr13 := 0, nr14 := 0, nr21 := 0, nr22 := 0, nr23 := 0, nr24 := 0,
    nr30 := 0, nr31 := 0, nr32 := 0, nr33 := 0, nr34 := 0, nr41 := 0, nr42 := 0, nr43 := 0, nr44 := 0,
    nr50 := 0, nr51 := 0 }

/-- Power on (R490): every channel disabled; the next frame-sequencer step is 0 (R481). -/
def Apu.powerOn (a : Apu) : Apu :=
  { a with power := true, on1 := false, on2 := false, on3 := false, on4 := false, fsStep := 0 }

/-- A write of NR52: only bit 7, and only a change of it does anything (notes/assumptions/13.md). -/
def Apu.writeNr52 (a : Apu) (v : Byte) : Apu :=
  if v.getLsbD 7 then (if a.power then a else a.powerOn) else (if a.power then a.powerOff else a)

/-- A write of 0xFF10 + r for r below 0x16, the APU on (10_state.md R47 to R51). Only writable bits are stored. -/
def Apu.writeRegister (cfg : Params) (seed : Nat) (a : Apu) (r : Nat) (v : Byte) : Apu :=
  match r with
  | 0x00 => { a with nr10 := v &&& 0x7F }
  | 0x01 => { a with nr11 := v, len1 := 64 - (v.setWidth 6).toNat }
  | 0x02 => { a with nr12 := v, on1 := a.on1 && dacOn v }
  | 0x03 => { a with nr13 := v }
  | 0x04 => if v.getLsbD 7 then Apu.trigger1 { a with nr14 := v &&& 0x47 } else { a with nr14 := v &&& 0x47 }
  | 0x06 => { a with nr21 := v, len2 := 64 - (v.setWidth 6).toNat }
  | 0x07 => { a with nr22 := v, on2 := a.on2 && dacOn v }
  | 0x08 => { a with nr23 := v }
  | 0x09 => if v.getLsbD 7 then Apu.trigger2 { a with nr24 := v &&& 0x47 } else { a with nr24 := v &&& 0x47 }
  | 0x0A => { a with nr30 := v &&& 0x80, on3 := a.on3 && v.getLsbD 7 }
  | 0x0B => { a with nr31 := v, len3 := 256 - v.toNat }
  | 0x0C => { a with nr32 := v &&& 0x60 }
  | 0x0D => { a with nr33 := v }
  | 0x0E => if v.getLsbD 7 then Apu.trigger3 cfg seed { a with nr34 := v &&& 0x47 } else { a with nr34 := v &&& 0x47 }
  | 0x10 => { a with nr41 := v &&& 0x3F, len4 := 64 - (v.setWidth 6).toNat }
  | 0x11 => { a with nr42 := v, on4 := a.on4 && dacOn v }
  | 0x12 => { a with nr43 := v }
  | 0x13 => if v.getLsbD 7 then Apu.trigger4 { a with nr44 := v &&& 0x40 } else { a with nr44 := v &&& 0x40 }
  | 0x14 => { a with nr50 := v }
  | 0x15 => { a with nr51 := v }
  | _ => a

/-- A write of wave RAM at address `addr`: while channel 3 is enabled it lands at a drawn byte (R486). -/
def Apu.writeWave (seed : Nat) (a : Apu) (addr : Word) (v : Byte) : Apu :=
  let i := if a.on3 then Config.waveRamIndex seed addr else addr.setWidth 4
  { a with waveRam := waveSet a.waveRam i v }

/-- A CPU write of an address 0xFF10-0xFF3F. Registers below NR52 ignore writes while the APU is off (R490). -/
def Apu.write (cfg : Params) (seed : Nat) (a : Apu) (addr : Word) (v : Byte) : Apu :=
  if addr < 0xFF26 then
    if a.power then Apu.writeRegister cfg seed a (addr.toNat - 0xFF10) v else a
  else if addr = 0xFF26 then a.writeNr52 v
  else if addr < 0xFF30 then a
  else Apu.writeWave seed a addr v

/-! ## Register reads: the stored bits under the OR-masks of 10_state.md R47 to R52 -/

/-- A read of NR52: power and the four status bits (R490). -/
def Apu.readNr52 (a : Apu) : Byte :=
  bitOf a.power ++ (7 : BitVec 3) ++ bitOf a.on4 ++ bitOf a.on3 ++ bitOf a.on2 ++ bitOf a.on1

/-- A read of 0xFF10 + r for r below 0x16. -/
def Apu.readRegister (a : Apu) (r : Nat) : Byte :=
  match r with
  | 0x00 => a.nr10 ||| 0x80
  | 0x01 => a.nr11 ||| 0x3F
  | 0x02 => a.nr12
  | 0x04 => a.nr14 ||| 0xBF
  | 0x06 => a.nr21 ||| 0x3F
  | 0x07 => a.nr22
  | 0x09 => a.nr24 ||| 0xBF
  | 0x0A => a.nr30 ||| 0x7F
  | 0x0C => a.nr32 ||| 0x9F
  | 0x0E => a.nr34 ||| 0xBF
  | 0x11 => a.nr42
  | 0x12 => a.nr43
  | 0x13 => a.nr44 ||| 0xBF
  | 0x14 => a.nr50
  | 0x15 => a.nr51
  | _ => 0xFF

/-- A CPU read of an address 0xFF10-0xFF3F. While channel 3 is enabled wave RAM reads a draw (R486). -/
def Apu.read (seed : Nat) (a : Apu) (addr : Word) : Byte :=
  if addr < 0xFF26 then a.readRegister (addr.toNat - 0xFF10)
  else if addr = 0xFF26 then a.readNr52
  else if addr < 0xFF30 then 0xFF
  else if a.on3 then Config.waveRamRead seed addr
  else waveByte a.waveRam (addr.setWidth 4)

end Sys2Proof.Machine
end

