-- ==== Sys2Proof/Machine/Timer.lean ====
section
/-! DEFINITION. The timer (60_exceptions.md R380 to R386) and the falls of its counter that step the APU's frame sequencer (61_video_audio.md R481). -/

namespace Sys2Proof.Machine

/-- `fallbit(TAC)` (R381). -/
def fallBit (tac : BitVec 3) : Nat :=
  match (tac.setWidth 2).toNat with
  | 0 => 9
  | 1 => 3
  | 2 => 5
  | _ => 7

/-- `sig = TAC[2] AND div_counter[fallbit(TAC)]` (R381). -/
def timerSignal (tac : BitVec 3) (div : BitVec 16) : Bool := tac.getLsbD 2 && div.getLsbD (fallBit tac)

/-- A TIMA increment (R385). -/
def Timer.increment (t : Timer) : Timer :=
  if t.tima = 0xFF then { t with tima := 0x00, phase := .overflow } else { t with tima := t.tima + 1 }

/-- The TIMA increment made if the signal fell (R381). -/
def Timer.incrementIf (t : Timer) (fell : Bool) : Timer := if fell then t.increment else t

/-- The counter bit whose fall steps the frame sequencer: 12, in double speed 13 (61_video_audio.md R481). -/
def frameBit (doubleSpeed : Bool) : Nat := if doubleSpeed then 13 else 12

/-- The frame-sequencer step made if the bit fell. -/
def Apu.frameStepIf (a : Apu) (fell : Bool) : Apu := if fell then a.frameStep else a

/-- The counter takes a new value: whatever falls, falls (R381, R382; 61_video_audio.md R481). -/
def moveCounter (doubleSpeed : Bool) (t : Timer) (a : Apu) (div : BitVec 16) : Timer × Apu :=
  (({ t with div := div } : Timer).incrementIf (timerSignal t.tac t.div && !timerSignal t.tac div),
   a.frameStepIf (t.div.getLsbD (frameBit doubleSpeed) && !div.getLsbD (frameBit doubleSpeed)))

/-- `n` counts of the counter (R386). -/
def timerCount (doubleSpeed : Bool) : Nat → Timer × Apu → Timer × Apu
  | 0, r => r
  | n + 1, r => timerCount doubleSpeed n (moveCounter doubleSpeed r.1 r.2 (r.1.div + 1))

/-- The overflow phase at the start of an update (R386): the reload and its interrupt, or the return to Normal. -/
def Timer.advancePhase (t : Timer) : Timer :=
  match t.phase with
  | .overflowProcessed => { t with phase := .normal }
  | .overflow => { t with tima := t.tma, phase := .overflowProcessed }
  | .normal => t

/-- A DIV write of any value resets the counter (R382). -/
def resetDiv (doubleSpeed : Bool) (t : Timer) (a : Apu) : Timer × Apu := moveCounter doubleSpeed t a 0

/-- A TIMA write (R383). -/
def Timer.writeTima (t : Timer) (v : Byte) : Timer :=
  match t.phase with
  | .normal => { t with tima := v }
  | .overflow => { t with tima := v, phase := .normal }
  | .overflowProcessed => t

/-- A TAC write: a fall of the signal increments TIMA at once (R384). -/
def Timer.writeTac (t : Timer) (v : Byte) : Timer :=
  ({ t with tac := v.setWidth 3 } : Timer).incrementIf (timerSignal t.tac t.div && !timerSignal (v.setWidth 3) t.div)

/-- DIV reads `div_counter[15:8]` (R380). -/
def Timer.readDiv (t : Timer) : Byte := hiByte t.div

/-- TAC reads its unused bits as 1 (10_state.md R34). -/
def Timer.readTac (t : Timer) : Byte := 0xF8 ||| t.tac.setWidth 8

end Sys2Proof.Machine
end

