-- ==== Sys2Proof/Machine/Bus.lean ====
section
/-! DEFINITION. The memory bus: routing, I/O registers, the accesses the spec refuses (20_memory.md R70 to R102, 10_state.md R32 to R52). -/

namespace Sys2Proof.Machine

/-! ## Byte arrays -/

/-- The active WRAM bank of 0xD000-0xDFFF: `max(1, SVBK)`, 1 outside CGB mode (R80, R82). -/
def State.wramBank (s : State) : Nat := if s.cfg.cgbMode then max 1 s.bus.svbk.toNat else 1

/-- The active VRAM bank: VBK's in CGB mode, else 0 (R77, R81). -/
def State.vramBank (s : State) : Nat := if s.cfg.cgbMode then s.bus.vramBank.toNat else 0

/-- The key of a WRAM address, 0xC000-0xDFFF (R80). -/
def State.wramKey (s : State) (a : Nat) : Nat :=
  if a < 0xD000 then wramBase + (a - 0xC000) else wramBase + 0x1000 * s.wramBank + (a - 0xD000)

/-- The memory key of the byte an address selects; none where no byte array answers (no cartridge, disabled cartridge RAM, the unusable
area, I/O, IE). The map of R74. -/
def State.key (s : State) (addr : Word) : Option Nat :=
  let a := addr.toNat
  if a < 0x8000 then
    if a < 0x0100 && s.bus.bootMapped then some (bootBase + a)
    else s.cfg.cart.map (fun c => c.romKey s.bus a)
  else if a < 0xA000 then some (vramBase + 0x2000 * s.vramBank + (a - 0x8000))
  else if a < 0xC000 then s.cfg.cart.bind (fun c => c.ramKey s.bus a)
  else if a < 0xE000 then some (s.wramKey a)
  else if a < 0xFE00 then some (s.wramKey (a - 0x2000))
  else if a < 0xFEA0 then some (oamBase + (a - 0xFE00))
  else if a < 0xFF80 then none
  else if a < 0xFFFF then some (hramBase + (a - 0xFF80))
  else none

/-! ## I/O registers -/

/-- The CGB registers of no source: 0xFF51-0xFF56 (HDMA, infrared) and 0xFF72-0xFF77 (10_state.md R52). -/
def cgbUnmodelled (addr : Word) : Bool := (0xFF51 ≤ addr && addr ≤ 0xFF56) || (0xFF72 ≤ addr && addr ≤ 0xFF77)

/-- A read of a register only CGB mode has; outside CGB mode it is unused (10_state.md R52). -/
def State.cgbOnly (s : State) (v : Byte) : Byte := if s.cfg.cgbMode then v else 0xFF

/-- A read of KEY1 (10_state.md R39). -/
def Bus.readKey1 (b : Bus) : Byte := bitOf b.doubleSpeed ++ (0x3F : BitVec 6) ++ bitOf b.keyArmed

/-- A read of 0xFF00-0xFF7F. Unused addresses read 0xFF (10_state.md R52). -/
def State.readIo (s : State) (addr : Word) : Byte :=
  if 0xFF10 ≤ addr && addr < 0xFF40 then s.apu.read s.seed addr
  else if s.cfg.cgbMode && cgbUnmodelled addr then Config.cgbRegisterRead s.seed addr
  else
    match addr.toNat with
    | 0xFF00 => s.joypad.readP1
    | 0xFF01 => s.serial.sb
    | 0xFF02 => s.serial.readSc s.cfg
    | 0xFF04 => s.timer.readDiv
    | 0xFF05 => s.timer.tima
    | 0xFF06 => s.timer.tma
    | 0xFF07 => s.timer.readTac
    | 0xFF0F => s.irq.readIf
    | 0xFF40 => s.ppu.lcdc
    | 0xFF41 => s.ppu.readStat
    | 0xFF42 => s.ppu.scy
    | 0xFF43 => s.ppu.scx
    | 0xFF44 => s.ppu.ly
    | 0xFF45 => s.ppu.lyc
    | 0xFF46 => s.dmaReg
    | 0xFF47 => s.ppu.bgp
    | 0xFF48 => s.ppu.obp0
    | 0xFF49 => s.ppu.obp1
    | 0xFF4A => s.ppu.wy
    | 0xFF4B => s.ppu.wx
    | 0xFF4D => s.cgbOnly s.bus.readKey1
    | 0xFF4F => s.cgbOnly (0xFE ||| s.bus.vramBank.setWidth 8)
    | 0xFF68 => s.cgbOnly (s.ppu.bcps ||| 0x40)
    | 0xFF69 => s.cgbOnly s.ppu.bcpd
    | 0xFF6A => s.cgbOnly (s.ppu.ocps ||| 0x40)
    | 0xFF6B => s.cgbOnly s.ppu.ocpd
    | 0xFF6C => s.cgbOnly (0xFE ||| (bitOf s.ppu.opri).setWidth 8)
    | 0xFF70 => s.cgbOnly (0xF8 ||| s.bus.svbk.setWidth 8)
    | _ => 0xFF

/-- The timer and the APU after a DIV write (60_exceptions.md R382). -/
def State.resetDiv (s : State) : State :=
  let r := Machine.resetDiv s.bus.doubleSpeed s.timer s.apu
  { s with timer := r.1, apu := r.2 }

/-- The state with the joypad and the interrupt requests of a P1 write. -/
def State.writeP1 (s : State) (v : Byte) : State :=
  let r := Machine.writeP1 (s.joypad, s.irq) v
  { s with joypad := r.1, irq := r.2 }

/-- The state with the PPU and the interrupt requests of an LCDC write. -/
def State.writeLcdc (s : State) (v : Byte) : State :=
  let r := Machine.writeLcdc (s.ppu, s.irq) v
  { s with ppu := r.1, irq := r.2 }

/-- A write to a register only CGB mode has; outside CGB mode it is ignored (10_state.md R52). -/
def State.ifCgb (s s' : State) : State := if s.cfg.cgbMode then s' else s

/-- A write to the boot-ROM disable register: bit 0 unmaps the boot ROM for good (20_memory.md R79). -/
def Bus.writeBoot (b : Bus) (v : Byte) : Bus := { b with bootMapped := b.bootMapped && !v.getLsbD 0 }

/-- A write of the DMA register starts a transfer, replacing any in progress (20_memory.md R95). The sub-byte remainder starts at 0
(DESIGN CHOICE), and the tick of the write's own M-cycle is the first that copies (DEDUCED; both notes/assumptions/26.md). -/
def State.startDma (s : State) (v : Byte) : State :=
  { s with dmaReg := v, dma := .transferring (mkWord v 0) 0 0 }

/-- A write of 0xFF00-0xFF7F. Unused addresses and read-only registers ignore it (10_state.md R52). -/
def State.writeIo (s : State) (addr : Word) (v : Byte) : State :=
  if 0xFF10 ≤ addr && addr < 0xFF40 then { s with apu := Apu.write s.cfg s.seed s.apu addr v }
  else
    match addr.toNat with
    | 0xFF00 => s.writeP1 v
    | 0xFF01 => { s with serial := { s.serial with sb := v } }
    | 0xFF02 => { s with serial := s.serial.writeSc s.cfg v }
    | 0xFF04 => s.resetDiv
    | 0xFF05 => { s with timer := s.timer.writeTima v }
    | 0xFF06 => { s with timer := { s.timer with tma := v } }
    | 0xFF07 => { s with timer := s.timer.writeTac v }
    | 0xFF0F => { s with irq := s.irq.writeIf v }
    | 0xFF40 => s.writeLcdc v
    | 0xFF41 => { s with ppu := s.ppu.writeStat v }
    | 0xFF42 => { s with ppu := { s.ppu with scy := v } }
    | 0xFF43 => { s with ppu := { s.ppu with scx := v } }
    | 0xFF45 => { s with ppu := s.ppu.writeLyc v }
    | 0xFF46 => s.startDma v
    | 0xFF47 => { s with ppu := { s.ppu with bgp := v } }
    | 0xFF48 => { s with ppu := { s.ppu with obp0 := v } }
    | 0xFF49 => { s with ppu := { s.ppu with obp1 := v } }
    | 0xFF4A => { s with ppu := { s.ppu with wy := v } }
    | 0xFF4B => { s with ppu := { s.ppu with wx := v } }
    | 0xFF4D => s.ifCgb { s with bus := { s.bus with keyArmed := v.getLsbD 0 } }
    | 0xFF4F => s.ifCgb { s with bus := { s.bus with vramBank := v.setWidth 1 } }
    | 0xFF50 => { s with bus := s.bus.writeBoot v }
    | 0xFF68 => s.ifCgb { s with ppu := s.ppu.writeBcps v }
    | 0xFF69 => s.ifCgb { s with ppu := s.ppu.writeBcpd v }
    | 0xFF6A => s.ifCgb { s with ppu := s.ppu.writeOcps v }
    | 0xFF6B => s.ifCgb { s with ppu := s.ppu.writeOcpd v }
    | 0xFF6C => s.ifCgb { s with ppu := { s.ppu with opri := v.getLsbD 0 } }
    | 0xFF70 => s.ifCgb { s with bus := { s.bus with svbk := v.setWidth 3 } }
    | _ => s

/-! ## Routed accesses, without the CPU's locks: what OAM DMA sees (20_memory.md R96) -/

/-- The byte of an address that a byte array answers, through an MBC2's half-byte cells (R91). -/
def State.readKey (s : State) (addr : Word) (k : Nat) : Byte :=
  match s.cfg.cart with
  | some c => if 0xA000 ≤ addr && addr < 0xC000 then c.ramReadValue (s.mem.read k) else s.mem.read k
  | none => s.mem.read k

/-- `MemRead(addr, 1)` as R75 to R84 route it. Total: routing never fails (R70). -/
def State.readRouted (s : State) (addr : Word) : Byte :=
  match s.key addr with
  | some k => s.readKey addr k
  | none =>
    if addr < 0xFEA0 then 0xFF
    else if addr < 0xFF00 then Config.unusableRead s.seed addr
    else if addr < 0xFF80 then s.readIo addr
    else s.irq.ie

/-- The byte a write stores in an address's cell (R91). -/
def State.storedValue (s : State) (addr : Word) (v : Byte) : Byte :=
  match s.cfg.cart with
  | some c => if 0xA000 ≤ addr && addr < 0xC000 then c.ramWriteValue v else v
  | none => v

/-- `MemWrite(addr, 1, v)` as R75 to R84 route it, where the spec does not refuse it. -/
def State.writeRouted (s : State) (addr : Word) (v : Byte) : State :=
  if addr < 0x8000 then { s with bus := s.bus.controllerWrite s.cfg.cart addr.toNat v }
  else
    match s.key addr with
    | some k => { s with mem := s.mem.write k (s.storedValue addr v) }
    | none =>
      if addr < 0xFF00 then s
      else if addr < 0xFF80 then s.writeIo addr v
      else { s with irq := { s.irq with ie := v } }

/-! ## CPU accesses -/

/-- OAM DMA is running (R97). -/
def State.dmaActive (s : State) : Bool := s.dma != .disabled

/-- The PPU access lock (R98): OAM in OamScan and DrawLine; VRAM, BCPD and OCPD in DrawLine. -/
def State.locked (s : State) (addr : Word) : Bool :=
  s.cfg.ppuAccessLock && s.ppu.lcdOn &&
    ((s.ppu.mode == .drawLine && ((0x8000 ≤ addr && addr < 0xA000) || (s.cfg.cgbMode && (addr == 0xFF69 || addr == 0xFF6B)))) ||
     ((s.ppu.mode == .drawLine || s.ppu.mode == .oamScan) && (0xFE00 ≤ addr && addr < 0xFEA0)))

/-- Why the spec refuses a CPU read (R97). -/
def State.readRefusal (s : State) (addr : Word) : Option RefusalCause :=
  if s.dmaActive && addr < 0xFF00 then some (.dmaBusConflict addr) else none

/-- Why the spec refuses a CPU write (R97, R95, R92; 10_state.md R52). Where R97 and R92 both refuse it, that R97's refusal is the one reported is
a DESIGN CHOICE (notes/assumptions/32.md). -/
def State.writeRefusal (s : State) (addr : Word) (v : Byte) : Option RefusalCause :=
  if s.dmaActive && addr < 0xFF00 then some (.dmaBusConflict addr)
  else if addr = 0xFF46 ∧ 0xDF < v then some (.dmaSource v)
  else if s.cfg.cgbMode && cgbUnmodelled addr then some (.unmodelledRegister addr)
  else
    match s.cfg.cart with
    | some c => if c.controller = .mbc5 ∧ mbc5Refuses addr.toNat v then some (.mbc5RamEnable v) else none
    | none => none

/-- The byte a CPU read returns where it is not refused (R98). -/
def State.readByte (s : State) (addr : Word) : Byte := if s.locked addr then 0xFF else s.readRouted addr

/-- The state after a CPU write that is not refused (R98). -/
def State.writeByte (s : State) (addr : Word) (v : Byte) : State := if s.locked addr then s else s.writeRouted addr v

end Sys2Proof.Machine
end

