-- ==== Sys2Proof/Machine/Tick.lean ====
section
/-! DEFINITION. The device tick after every CPU M-cycle (70_reset_and_hazards.md R580 to R582): OAM DMA, PPU, APU, timer, serial, joypad, in that order. -/

namespace Sys2Proof.Machine

/-- The normal T-cycles of one M-cycle: 4, in double speed 2 (R582). -/
def State.normalT (s : State) : Nat := if s.bus.doubleSpeed then 2 else 4

/-- Copies `k` bytes of a transfer, from byte `n` on (20_memory.md R96). OAM is never a source, so the bytes read do not depend on the ones written. -/
def dmaCopy (s : State) (start : Word) : Nat → Nat → Memory → Memory
  | 0, _, m => m
  | k + 1, n, m => dmaCopy s start k (n + 1) (m.write (oamBase + n) (s.readRouted (start + BitVec.ofNat 16 n)))

/-- The bytes OAM DMA copies in one tick of 4 CPU T-cycles (20_memory.md R96). -/
def dmaCount (cfg : Params) (next rem : Nat) : Nat := min ((rem + 4) / cfg.dmaTPerByte) (160 - next)

/-- Memory after one tick's bytes. -/
def State.dmaMem (s : State) : Memory :=
  match s.dma with
  | .disabled => s.mem
  | .transferring start n rem => dmaCopy s start (dmaCount s.cfg n rem) n s.mem

/-- The transfer's progress in one tick; after 160 bytes it is over. -/
def Dma.advance (cfg : Params) : Dma → Dma
  | .disabled => .disabled
  | .transferring start n rem =>
    if 160 ≤ n + dmaCount cfg n rem then .disabled
    else .transferring start (n + dmaCount cfg n rem) ((rem + 4) % cfg.dmaTPerByte)

/-- OAM DMA progress in one tick (20_memory.md R96), the tick of the M-cycle that wrote the DMA register included (DEDUCED, notes/assumptions/26.md). -/
def State.tickDma (s : State) : State := { s with mem := s.dmaMem, dma := s.dma.advance s.cfg }

/-- The PPU's normal T-cycles (61_video_audio.md R461). -/
def State.tickPpu (s : State) : State :=
  let r := ppuRun s.cfg s.mem s.normalT (s.ppu, s.irq)
  { s with ppu := r.1, irq := r.2 }

/-- The APU's normal T-cycles. -/
def State.tickApu (s : State) : State := { s with apu := apuRun s.cfg s.normalT s.apu }

/-- The timer update of 4 CPU T-cycles (60_exceptions.md R386), with the frame sequencer. -/
def State.tickTimer (s : State) : State :=
  let r := timerCount s.bus.doubleSpeed 4 (s.timer.advancePhase, s.apu)
  { s with timer := r.1, apu := r.2, irq := s.irq.requestIf (s.timer.phase = .overflow) .timer }

/-- The serial port's 4 CPU T-cycles (60_exceptions.md R390). -/
def State.tickSerial (s : State) : State :=
  let r := serialTick s.cfg 4 (s.serial, s.irq)
  { s with serial := r.1, irq := r.2 }

/-- The joypad's comparison (60_exceptions.md R393). -/
def State.tickJoypad (s : State) : State :=
  let r := joypadSample (s.joypad, s.irq)
  { s with joypad := r.1, irq := r.2 }

/-- The model's own counters. -/
def State.countTick (s : State) : State := { s with elapsed := s.elapsed + s.normalT, seed := s.seed + 1 }

/-- The device tick of one M-cycle (R581). -/
def State.tick (s : State) : State :=
  s.tickDma.tickPpu.tickApu.tickTimer.tickSerial.tickJoypad.countTick

end Sys2Proof.Machine
end

