-- ==== Sys2Proof/Machine/Ops.lean ====
section
/-! DEFINITION. The named operations instructions are made of: registers, M-cycles, instruction fetch, the stack,
taking an interrupt and returning from one, the steps in which no instruction runs.

A meaning starts in the instruction's last fetch M-cycle, after that M-cycle's bus access and before its device tick
(70_reset_and_hazards.md R580). Each operation below that begins a new M-cycle first ticks the devices for the one that
ends, so a state passed to a continuation is again one after an access and before its tick; `finish` ends the step. -/

namespace Sys2Proof.Machine

/-- What a step or a meaning answers. -/
abbrev Result := Host.Outcome State Fault Refusal

/-! ## Registers (10_state.md R20 to R26) -/

/-- The name of an `r8` register. -/
def regName : R8 → RegName
  | .b => .b | .c => .c | .d => .d | .e => .e | .h => .h | .l => .l | .a => .a

/-- The state with the CPU's own registers replaced. -/
def State.withCpu (s : State) (c : Cpu) : State := { s with cpu := c }

/-- The state with another run mode. -/
def State.setRun (s : State) (m : RunMode) : State := s.withCpu { s.cpu with run := m }

/-- The step faults in the present M-cycle: the state is the present one, with run mode Faulted (60_exceptions.md R360). -/
def State.faults (s : State) (c : FaultCause) : Result :=
  .fault <| match c with
    | .illegalOpcode op a => .illegalOpcode op a (s.setRun (.faulted c))
    | .unwrittenRegister r => .unwrittenRegister r (s.setRun (.faulted c))

/-- The step is refused in the present M-cycle: the state is the present one, with run mode Refused (R360). -/
def State.refuses (s : State) (c : RefusalCause) : Result :=
  .refused <| match c with
    | .stopMode a => .stopMode a (s.setRun (.refused c))
    | .dmaBusConflict a => .dmaBusConflict a (s.setRun (.refused c))
    | .dmaSource v => .dmaSource v (s.setRun (.refused c))
    | .mbc5RamEnable v => .mbc5RamEnable v (s.setRun (.refused c))
    | .unmodelledRegister a => .unmodelledRegister a (s.setRun (.refused c))
    | .dispatchIePush sp => .dispatchIePush sp (s.setRun (.refused c))

/-- The state a fault leaves. -/
def Fault.left : Fault → State
  | .illegalOpcode _ _ s => s
  | .unwrittenRegister _ s => s

/-- The state a refused step leaves; none where there was no step. -/
def Refusal.left : Refusal → Option State
  | .stopMode _ s => some s
  | .dmaBusConflict _ s => some s
  | .dmaSource _ s => some s
  | .mbc5RamEnable _ s => some s
  | .unmodelledRegister _ s => some s
  | .dispatchIePush _ s => some s
  | _ => none

/-- Goes on if every register named is written; a read of an unwritten one is a fault (R26). That the fault names the first unwritten one of the
list, the list's order being the model's, is a DESIGN CHOICE (notes/assumptions/16.md). -/
def State.reading (s : State) (rs : List RegName) (k : Result) : Result :=
  match rs.find? (fun r => s.cpu.unwritten.contains r) with
  | some r => s.faults (.unwrittenRegister r)
  | none => k

/-- A register an instruction writes is written from then on (R26). -/
def markWritten (rs : List RegName) (unwritten : List RegName) : List RegName :=
  unwritten.filter (fun r => !rs.contains r)

/-- `x[r]` for an `r8` register. -/
def State.reg (s : State) : R8 → Byte
  | .b => s.cpu.b | .c => s.cpu.c | .d => s.cpu.d | .e => s.cpu.e | .h => s.cpu.h | .l => s.cpu.l | .a => s.cpu.a

/-- The CPU with one register written. -/
def Cpu.setReg (c : Cpu) (r : R8) (v : Byte) : Cpu :=
  { c with
    a := if r = .a then v else c.a
    b := if r = .b then v else c.b
    c := if r = .c then v else c.c
    d := if r = .d then v else c.d
    e := if r = .e then v else c.e
    h := if r = .h then v else c.h
    l := if r = .l then v else c.l
    unwritten := markWritten [regName r] c.unwritten }

/-- `x[r] <- v` -/
def State.setReg (s : State) (r : R8) (v : Byte) : State := s.withCpu (s.cpu.setReg r v)

/-- `x[SP] <- v` -/
def State.setSp (s : State) (v : Word) : State :=
  s.withCpu { s.cpu with sp := v, unwritten := markWritten [.sp] s.cpu.unwritten }

/-- `pc <- v` -/
def State.setPc (s : State) (v : Word) : State := s.withCpu { s.cpu with pc := v }

/-- A whole write of F: its low four bits are always 0 (R23). -/
def State.setF (s : State) (v : Byte) : State :=
  s.withCpu { s.cpu with f := v &&& 0xF0, unwritten := markWritten [.f] s.cpu.unwritten }

/-- The flags an instruction leaves unchanged: F's, or free ones if nothing has written F (R26; notes/assumptions/17.md). -/
def State.keptF (s : State) : Byte :=
  if s.cpu.unwritten.contains .f then Config.unwrittenFlags s.seed &&& 0xF0 else s.cpu.f

/-- `x[rr]` for `r16`: the first-named register is the high byte (R21). -/
def State.pair (s : State) : R16 → Word
  | .bc => mkWord s.cpu.b s.cpu.c
  | .de => mkWord s.cpu.d s.cpu.e
  | .hl => mkWord s.cpu.h s.cpu.l
  | .sp => s.cpu.sp

/-- `x[rr] <- v` for `r16` (R21). -/
def State.setPair (s : State) (rr : R16) (v : Word) : State :=
  match rr with
  | .bc => (s.setReg .b (hiByte v)).setReg .c (loByte v)
  | .de => (s.setReg .d (hiByte v)).setReg .e (loByte v)
  | .hl => (s.setReg .h (hiByte v)).setReg .l (loByte v)
  | .sp => s.setSp v

/-- `x[rr]` for `r16stk` (R21). -/
def State.stkPair (s : State) : R16Stk → Word
  | .bc => s.pair .bc
  | .de => s.pair .de
  | .hl => s.pair .hl
  | .af => mkWord s.cpu.a s.cpu.f

/-- `x[rr] <- v` for `r16stk`; F takes the low byte's top four bits (R23, 40_load.md R183). -/
def State.setStkPair (s : State) (rr : R16Stk) (v : Word) : State :=
  match rr with
  | .bc => s.setPair .bc v
  | .de => s.setPair .de v
  | .hl => s.setPair .hl v
  | .af => (s.setReg .a (hiByte v)).setF (loByte v)

/-- The register halves a pair of `r16` is read from. -/
def pairNames : R16 → List RegName
  | .bc => [.b, .c] | .de => [.d, .e] | .hl => [.h, .l] | .sp => [.sp]

/-- The register halves a pair of `r16stk` is read from. -/
def stkNames : R16Stk → List RegName
  | .bc => [.b, .c] | .de => [.d, .e] | .hl => [.h, .l] | .af => [.a, .f]

/-! ## M-cycles (70_reset_and_hazards.md R580) -/

/-- Ends the step: the last M-cycle's device tick. -/
def finish (s : State) : Result := .next s.tick

/-- A CPU read in the present M-cycle, unless the spec refuses it (20_memory.md R97). -/
def State.busRead (s : State) (addr : Word) (k : Byte → Result) : Result :=
  match s.readRefusal addr with
  | some r => s.refuses r
  | none => k (s.readByte addr)

/-- A CPU write in the present M-cycle, unless the spec refuses it (20_memory.md R92, R95, R97; 10_state.md R52). -/
def State.busWrite (s : State) (addr : Word) (v : Byte) (k : State → Result) : Result :=
  match s.writeRefusal addr v with
  | some r => s.refuses r
  | none => k (s.writeByte addr v)

/-- The next M-cycle is a read. -/
def State.readNext (s : State) (addr : Word) (k : Byte → State → Result) : Result :=
  s.tick.busRead addr (fun v => k v s.tick)

/-- The next M-cycle is a write. -/
def State.writeNext (s : State) (addr : Word) (v : Byte) (k : State → Result) : Result :=
  s.tick.busWrite addr v k

/-- The next M-cycle is internal. -/
def State.internalNext (s : State) : State := s.tick

/-! ## Fetch (30_encoding.md R131, R139) -/

/-- The state after an opcode byte is fetched: its address is kept (10_state.md R30), and pc advances unless the HALT bug is pending (R131). -/
def State.opcodeFetched (s : State) : State :=
  if s.cfg.haltBug && s.cpu.haltBug then
    s.withCpu { s.cpu with opcodeAddr := s.cpu.pc, haltBug := false }
  else
    s.withCpu { s.cpu with opcodeAddr := s.cpu.pc, pc := s.cpu.pc + 1 }

/-- The opcode fetch, in the step's first M-cycle: `opcode_address` is set before the read (30_encoding.md R131), so a refused read leaves it set. -/
def State.fetchOpcode (s : State) (k : Byte → State → Result) : Result :=
  (s.withCpu { s.cpu with opcodeAddr := s.cpu.pc }).busRead s.cpu.pc (fun op => k op s.opcodeFetched)

/-- `Fetch8()` in the next M-cycle (00_scope.md R12). -/
def State.fetchNext (s : State) (k : Byte → State → Result) : Result :=
  s.readNext s.cpu.pc (fun n s => k n (s.setPc (s.cpu.pc + 1)))

/-- The bytes after the opcode: the second byte of a 0xCB instruction, or as many immediate bytes as the opcode's length says (R131). -/
def State.fetchRest (s : State) (op : Byte) (k : Instr → State → Result) : Result :=
  if op = 0xCB then s.fetchNext (fun op2 s => k (decodeCb op2) s)
  else if opLength op = 1 then k (decodePlain op 0 0) s
  else if opLength op = 2 then s.fetchNext (fun n s => k (decodePlain op n 0) s)
  else s.fetchNext (fun lo s => s.fetchNext (fun hi s => k (decodePlain op 0 (mkWord hi lo)) s))

/-- One instruction, fetched and decoded. -/
def State.fetchInstr (s : State) (k : Instr → State → Result) : Result :=
  s.fetchOpcode (fun op s => s.fetchRest op k)

/-! ## The stack (40_load.md R182, R183; 20_memory.md R71) -/

/-- Two M-cycles: the high byte at SP - 1, then the low byte at SP - 2. -/
def State.pushWord (s : State) (v : Word) (k : State → Result) : Result :=
  s.reading [.sp] <|
    (s.setSp (s.cpu.sp - 1)).writeNext (s.cpu.sp - 1) (hiByte v) fun s1 =>
      (s1.setSp (s.cpu.sp - 2)).writeNext (s.cpu.sp - 2) (loByte v) k

/-- Two M-cycles: the low byte at SP, then the high byte at SP + 1. -/
def State.popWord (s : State) (k : Word → State → Result) : Result :=
  s.internalNext.reading [.sp] <|
    s.readNext s.cpu.sp fun lo s1 =>
      (s1.setSp (s.cpu.sp + 1)).readNext (s.cpu.sp + 1) fun hi s2 =>
        k (mkWord hi lo) (s2.setSp (s.cpu.sp + 2))

/-! ## Interrupts (60_exceptions.md R364 to R370) -/

/-- The fourth M-cycle's end of a dispatch: the source's request bit is cleared, and interrupts are disabled (R366). -/
def State.acknowledge (s : State) (i : Interrupt) : State :=
  ({ s with irq := s.irq.acknowledge i } : State).withCpu { s.cpu with ime := .disabled }

/-- Taking an interrupt, in five M-cycles (R366): the source is the lowest pending one at the start, pc is pushed
(R369: nothing else is saved), and pc goes to the source's vector. A push of the high byte into IE is refused. -/
def State.dispatchInterrupt (s : State) : Result :=
  let i := s.irq.lowest
  let s2 := s.internalNext
  s2.reading [.sp] <|
    if s2.cpu.sp - 1 = 0xFFFF then (s2.setSp (s2.cpu.sp - 1)).internalNext.refuses (.dispatchIePush (s2.cpu.sp - 1))
    else
      s2.pushWord s2.cpu.pc fun s4 =>
        finish ((s4.acknowledge i).internalNext.setPc i.vector)

/-- Returning from an interrupt (R370, 44_control.md R320): pc is popped, and interrupts are enabled at once. -/
def State.returnFromInterrupt (s : State) : Result :=
  s.popWord fun v s3 =>
    finish (s3.internalNext.withCpu { s3.cpu with pc := v, ime := .enabled })

/-- IME promotion at the end of an instruction (R364): `before` is ime at the start of its step. -/
def State.promoteIme (s : State) (before : Ime) : State :=
  if before = .pending ∧ s.cpu.ime = .pending then s.withCpu { s.cpu with ime := .enabled } else s

/-- The outcome of a step that executed an instruction: IME is promoted if it completed. -/
def promote (before : Ime) : Result → Result
  | .next s => .next (s.promoteIme before)
  | .fault f => .fault f
  | .refused r => .refused r

/-- The step is an interrupt dispatch (R365). -/
def State.takesInterrupt (s : State) : Bool := s.cpu.ime == .enabled && s.irq.pending

/-! ## Steps in which no instruction runs -/

/-- One idle M-cycle of a halted CPU: after its tick a pending interrupt wakes the CPU, whatever ime is (R368). -/
def State.idleHalted (s : State) : State := if s.tick.irq.pending then s.tick.setRun .running else s.tick

/-- The run mode with `n` CPU T-cycles of a speed switch left. -/
def switchingMode (n : Nat) : RunMode := if n = 0 then .running else .switching n

/-- One idle M-cycle of a speed switch, 4 CPU T-cycles; interrupts are ignored (45_system.md R341). -/
def State.idleSwitching (s : State) (n : Nat) : State := s.tick.setRun (switchingMode (n - 4))

end Sys2Proof.Machine
end

