-- ==== Sys2Proof/Machine/Flags.lean ====
section
/-! DEFINITION. The flags of F (10_state.md R23, R24) and every flag computation of the 4x files. -/

namespace Sys2Proof.Machine

/-! ## Reading the flags -/

/-- `F.Z`, `F.N`, `F.H`, `F.C` (R23). -/
def State.flagZ (s : State) : Bool := s.cpu.f.getLsbD 7
def State.flagN (s : State) : Bool := s.cpu.f.getLsbD 6
def State.flagH (s : State) : Bool := s.cpu.f.getLsbD 5
def State.flagC (s : State) : Bool := s.cpu.f.getLsbD 4

/-! ## Writing the flags -/

/-- `{z, n, h, c, 0, 0, 0, 0}` (41_alu8.md R202). -/
def packFlags (z n h c : Bool) : Byte := bitOf z ++ bitOf n ++ bitOf h ++ bitOf c ++ (0 : BitVec 4)

/-- `setZNHC(z, n, h, c)` (R202). -/
def State.setZNHC (s : State) (z n h c : Bool) : State := s.setF (packFlags z n h c)

/-- Z, N and H are written, C keeps its value. -/
def State.setZNH (s : State) (z n h : Bool) : State := s.setF (packFlags z n h (s.keptF.getLsbD 4))

/-- N, H and C are written, Z keeps its value. -/
def State.setNHC (s : State) (n h c : Bool) : State := s.setF (packFlags (s.keptF.getLsbD 7) n h c)

/-- N and H are written, Z and C keep their values. -/
def State.setNH (s : State) (n h : Bool) : State :=
  s.setF (packFlags (s.keptF.getLsbD 7) n h (s.keptF.getLsbD 4))

/-! ## 8-bit arithmetic (41_alu8.md R200, R201): a result, the half carry and the carry -/

structure Sum8 where
  r : Byte
  h : Bool
  c : Bool
  deriving DecidableEq, Repr

/-- `add8(a, b, c)` (R200). -/
def add8 (a b : Byte) (c : Bool) : Sum8 where
  r := a + b + (bitOf c).setWidth 8
  h := 0x0F < (a &&& 0x0F).toNat + (b &&& 0x0F).toNat + c.toNat
  c := 0xFF < a.toNat + b.toNat + c.toNat

/-- `sub8(a, b, c)` (R201). -/
def sub8 (a b : Byte) (c : Bool) : Sum8 where
  r := a - b - (bitOf c).setWidth 8
  h := (a &&& 0x0F).toNat < (b &&& 0x0F).toNat + c.toNat
  c := a.toNat < b.toNat + c.toNat

/-- `zero(r)` (R202). -/
def isZero (r : Byte) : Bool := r == 0

/-- What an `alu` operation of the accumulator `a`, an operand and the carry flag makes of A and F. -/
structure AluOut where
  a : Byte
  z : Bool
  n : Bool
  h : Bool
  c : Bool
  deriving DecidableEq, Repr

/-- The eight operations of `alu` (R203 to R226). CP keeps A (R224). -/
def aluOut (op : Alu) (a v : Byte) (carry : Bool) : AluOut :=
  match op with
  | .add => let x := add8 a v false; { a := x.r, z := isZero x.r, n := false, h := x.h, c := x.c }
  | .adc => let x := add8 a v carry; { a := x.r, z := isZero x.r, n := false, h := x.h, c := x.c }
  | .sub => let x := sub8 a v false; { a := x.r, z := isZero x.r, n := true, h := x.h, c := x.c }
  | .sbc => let x := sub8 a v carry; { a := x.r, z := isZero x.r, n := true, h := x.h, c := x.c }
  | .and => { a := a &&& v, z := isZero (a &&& v), n := false, h := true, c := false }
  | .xor => { a := a ^^^ v, z := isZero (a ^^^ v), n := false, h := false, c := false }
  | .or => { a := a ||| v, z := isZero (a ||| v), n := false, h := false, c := false }
  | .cp => let x := sub8 a v false; { a := a, z := isZero x.r, n := true, h := x.h, c := x.c }

/-- DAA's adjusted accumulator and carry (R231). -/
structure DaaOut where
  a : Byte
  c : Bool
  deriving DecidableEq, Repr

/-- The decimal adjustment (R231; 90_conflicts.md C3). -/
def daaOut (a : Byte) (n h c : Bool) : DaaOut :=
  if n then
    { a := a - (if c then 0x60 else 0) - (if h then 0x06 else 0), c := c }
  else
    { a := a + (if c || 0x99 < a then 0x60 else 0) + (if h || 0x09 < a &&& 0x0F then 0x06 else 0)
      c := c || 0x99 < a }

/-! ## 16-bit arithmetic (42_alu16.md) -/

/-- The carry out of bit 11 of `a + b` (R252). -/
def halfCarry16 (a b : Word) : Bool := 0x0FFF < (a &&& 0x0FFF).toNat + (b &&& 0x0FFF).toNat

/-- The carry out of bit 15 of `a + b` (R252). -/
def carry16 (a b : Word) : Bool := 0xFFFF < a.toNat + b.toNat

/-- H of `SP + e8`: unsigned, on the low nibbles (R253). -/
def halfCarrySp (a : Word) (n : Byte) : Bool := 0x0F < (a &&& 0x0F).toNat + (n &&& 0x0F).toNat

/-- C of `SP + e8`: unsigned, on the low bytes (R253). -/
def carrySp (a : Word) (n : Byte) : Bool := 0xFF < (a &&& 0xFF).toNat + n.toNat

/-! ## Rotates and shifts (43_rotate_shift_bit.md) -/

/-- A rotate or shift's result and the bit shifted out. -/
structure Rotated where
  r : Byte
  c : Bool
  deriving DecidableEq, Repr

/-- The eight operations of `rot` (R275 to R290); SWAP clears C. -/
def rotated (k : Rot) (o : Byte) (carry : Bool) : Rotated :=
  match k with
  | .rlc => { r := o.setWidth 7 ++ bitOf (o.getLsbD 7), c := o.getLsbD 7 }
  | .rrc => { r := bitOf (o.getLsbD 0) ++ o.extractLsb' 1 7, c := o.getLsbD 0 }
  | .rl => { r := o.setWidth 7 ++ bitOf carry, c := o.getLsbD 7 }
  | .rr => { r := bitOf carry ++ o.extractLsb' 1 7, c := o.getLsbD 0 }
  | .sla => { r := o.setWidth 7 ++ (0 : BitVec 1), c := o.getLsbD 7 }
  | .sra => { r := bitOf (o.getLsbD 7) ++ o.extractLsb' 1 7, c := o.getLsbD 0 }
  | .swap => { r := o.setWidth 4 ++ o.extractLsb' 4 4, c := false }
  | .srl => { r := (0 : BitVec 1) ++ o.extractLsb' 1 7, c := o.getLsbD 0 }

/-- The accumulator rotates are the same operations on A (R270 to R273). -/
def accRot : AccRot → Rot
  | .rlca => .rlc | .rrca => .rrc | .rla => .rl | .rra => .rr

/-- The flag RL, RR, RLA and RRA read: C alone. -/
def rotReads : Rot → List RegName
  | .rl => [.f] | .rr => [.f]
  | .rlc => [] | .rrc => [] | .sla => [] | .sra => [] | .swap => [] | .srl => []

/-- The flag ADC and SBC read: C alone. -/
def aluReads : Alu → List RegName
  | .adc => [.f] | .sbc => [.f]
  | .add => [] | .sub => [] | .and => [] | .xor => [] | .or => [] | .cp => []

end Sys2Proof.Machine
end

