-- ==== Sys2Proof/Machine/Operands.lean ====
section
/-! DEFINITION. The operand forms (30_encoding.md R133, R134) and the conditions (44_control.md R310). -/

namespace Sys2Proof.Machine

/-- An `r8` register operand: its value. -/
def State.regOperand (s : State) (r : R8) (k : Byte → Result) : Result :=
  s.reading [regName r] (k (s.reg r))

/-- The address HL. -/
def State.hl (s : State) : Word := s.pair .hl

/-- The `(HL)` operand as a source: the next M-cycle reads the byte at HL. -/
def State.hlOperand (s : State) (k : Byte → State → Result) : Result :=
  s.internalNext.reading [.h, .l] (s.readNext s.hl k)

/-- A value stored at HL in the next M-cycle, which ends the instruction. -/
def State.storeHl (s : State) (v : Byte) : Result :=
  s.internalNext.reading [.h, .l] (s.writeNext s.hl v finish)

/-- A read of `(HL)` in one M-cycle and a write of the result to the same address in the next, with a device tick
between (20_memory.md R100). `f` gives the result and the state with the flags written; it reads the registers `rs`. That the flags are written in the
M-cycle of the read, so that a refused write leaves the new ones, is a DESIGN CHOICE (notes/assumptions/31.md). -/
def State.modifyHl (s : State) (rs : List RegName) (f : Byte → State → Byte × State) : Result :=
  s.hlOperand fun o s1 => s1.reading rs ((f o s1).2.writeNext s.hl (f o s1).1 finish)

/-- The pointer pair of `LD A,(BC)` and its kin. -/
def ptrPair : Ptr → R16
  | .bc => .bc | .de => .de

/-- The address of a pointer pair. -/
def State.ptr (s : State) (p : Ptr) : Word := s.pair (ptrPair p)

/-- The high-page address `0xFF00 + C`. -/
def State.highC (s : State) : Word := highPage s.cpu.c

/-- `pc + e8`, the target of a relative jump (R314). -/
def State.relative (s : State) (e : Byte) : Word := s.cpu.pc + sext16 e

/-- `SP + e8` (42_alu16.md R253). -/
def State.spOffset (s : State) (e : Byte) : Word := s.cpu.sp + sext16 e

/-- The target of `RST` (R321): `t * 8`. -/
def rstTarget (t : BitVec 3) : Word := t.setWidth 16 <<< 3

/-- `cond(cc)` (R310). -/
def State.cond (s : State) : Cond → Bool
  | .nz => !s.flagZ
  | .z => s.flagZ
  | .nc => !s.flagC
  | .c => s.flagC

/-- Tests a condition: a read of F. -/
def State.ifCond (s : State) (cc : Cond) (taken notTaken : Result) : Result :=
  s.reading [.f] (if s.cond cc then taken else notTaken)

end Sys2Proof.Machine
end

