-- ==== Sys2Proof/Machine/Alu16.lean ====
section
/-! DEFINITION. The meanings of 42_alu16.md: 16-bit arithmetic (R250 to R255). A meaning per rule, then one definition per instruction. -/

namespace Sys2Proof.Machine

/-- `INC r16` (R250). -/
def incPair (rr : R16) (s : State) : Result :=
  s.internalNext.reading (pairNames rr) <| finish (s.internalNext.setPair rr (s.pair rr + 1))

/-- `DEC r16` (R251). -/
def decPair (rr : R16) (s : State) : Result :=
  s.internalNext.reading (pairNames rr) <| finish (s.internalNext.setPair rr (s.pair rr - 1))

/-- `ADD HL,r16` (R252): Z unchanged. -/
def addHl (rr : R16) (s : State) : Result :=
  s.internalNext.reading ([.h, .l] ++ pairNames rr) <|
    finish ((s.internalNext.setPair .hl (s.hl + s.pair rr)).setNHC false
      (halfCarry16 s.hl (s.pair rr)) (carry16 s.hl (s.pair rr)))

/-- `ADD SP,e8` (R253). -/
def addSp (e : Byte) (s : State) : Result :=
  s.internalNext.reading [.sp] <|
    finish ((s.internalNext.internalNext.setSp (s.spOffset e)).setZNHC false false
      (halfCarrySp s.cpu.sp e) (carrySp s.cpu.sp e))

/-- `LD HL,SP+e8` (R254). -/
def ldHlSp (e : Byte) (s : State) : Result :=
  s.internalNext.reading [.sp] <|
    finish ((s.internalNext.setPair .hl (s.spOffset e)).setZNHC false false
      (halfCarrySp s.cpu.sp e) (carrySp s.cpu.sp e))

/-! ## The instructions -/

/-- INC_BC (R250). -/
def execIncBc (s : State) : Result := incPair .bc s

/-- ADD_HL_BC (R252). -/
def execAddHlBc (s : State) : Result := addHl .bc s

/-- DEC_BC (R251). -/
def execDecBc (s : State) : Result := decPair .bc s

/-- INC_DE (R250). -/
def execIncDe (s : State) : Result := incPair .de s

/-- ADD_HL_DE (R252). -/
def execAddHlDe (s : State) : Result := addHl .de s

/-- DEC_DE (R251). -/
def execDecDe (s : State) : Result := decPair .de s

/-- INC_HL (R250). -/
def execIncHl (s : State) : Result := incPair .hl s

/-- ADD_HL_HL (R252). -/
def execAddHlHl (s : State) : Result := addHl .hl s

/-- DEC_HL (R251). -/
def execDecHl (s : State) : Result := decPair .hl s

/-- INC_SP (R250). -/
def execIncSp (s : State) : Result := incPair .sp s

/-- ADD_HL_SP (R252). -/
def execAddHlSp (s : State) : Result := addHl .sp s

/-- DEC_SP (R251). -/
def execDecSp (s : State) : Result := decPair .sp s

/-- ADD_SP_e8 (R253). -/
def execAddSpE8 (e : Byte) (s : State) : Result := addSp e s

/-- LD_HL_SP+e8 (R254). -/
def execLdHlSpE8 (e : Byte) (s : State) : Result := ldHlSp e s

end Sys2Proof.Machine
end

