-- ==== Sys2Proof/Machine/Alu8.lean ====
section
/-! DEFINITION. The meanings of 41_alu8.md: 8-bit arithmetic and logic (R200 to R235). A meaning per rule, then one definition per instruction. -/

namespace Sys2Proof.Machine

/-- A and F after an `alu` operation with operand `v` (R203 to R226). -/
def State.aluResult (s : State) (op : Alu) (v : Byte) : State :=
  let x := aluOut op s.cpu.a v s.flagC
  (s.setReg .a x.a).setZNHC x.z x.n x.h x.c

/-- `alu A,r8` (R203, R206, R209, R212, R215, R218, R221, R224). -/
def aluReg (op : Alu) (src : R8) (s : State) : Result :=
  s.reading (.a :: regName src :: aluReads op) <| finish (s.aluResult op (s.reg src))

/-- `alu A,(HL)` (R204, R207, R210, R213, R216, R219, R222, R225). -/
def aluMem (op : Alu) (s : State) : Result :=
  s.hlOperand fun v s => s.reading (.a :: aluReads op) <| finish (s.aluResult op v)

/-- `alu A,n8` (R205, R208, R211, R214, R217, R220, R223, R226). -/
def aluImm (op : Alu) (n : Byte) (s : State) : Result :=
  s.reading (.a :: aluReads op) <| finish (s.aluResult op n)

/-- The flags of INC: C unchanged (R227). -/
def State.incFlags (s : State) (v : Byte) : State :=
  s.setZNH (isZero (add8 v 1 false).r) false (add8 v 1 false).h

/-- The flags of DEC: C unchanged (R229). -/
def State.decFlags (s : State) (v : Byte) : State :=
  s.setZNH (isZero (sub8 v 1 false).r) true (sub8 v 1 false).h

/-- `INC r8` (R227). -/
def incReg (dst : R8) (s : State) : Result :=
  s.regOperand dst fun v => finish ((s.setReg dst (add8 v 1 false).r).incFlags v)

/-- `INC (HL)` (R228). -/
def incMem (s : State) : Result := s.modifyHl [] fun v s => ((add8 v 1 false).r, s.incFlags v)

/-- `DEC r8` (R229). -/
def decReg (dst : R8) (s : State) : Result :=
  s.regOperand dst fun v => finish ((s.setReg dst (sub8 v 1 false).r).decFlags v)

/-- `DEC (HL)` (R230). -/
def decMem (s : State) : Result := s.modifyHl [] fun v s => ((sub8 v 1 false).r, s.decFlags v)

/-- `DAA` (R231): N unchanged. -/
def daa (s : State) : Result :=
  s.reading [.a, .f] <|
    let x := daaOut s.cpu.a s.flagN s.flagH s.flagC
    finish ((s.setReg .a x.a).setZNHC (isZero x.a) s.flagN false x.c)

/-- `CPL` (R232). -/
def cpl (s : State) : Result := s.reading [.a] <| finish ((s.setReg .a (s.cpu.a ^^^ 0xFF)).setNH true true)

/-- `SCF` (R233). -/
def scf (s : State) : Result := finish (s.setNHC false false true)

/-- `CCF` (R234). -/
def ccf (s : State) : Result := s.reading [.f] <| finish (s.setNHC false false (!s.flagC))

/-! ## The instructions -/

/-- INC_B (R227). -/
def execIncB (s : State) : Result := incReg .b s

/-- DEC_B (R229). -/
def execDecB (s : State) : Result := decReg .b s

/-- INC_C (R227). -/
def execIncC (s : State) : Result := incReg .c s

/-- DEC_C (R229). -/
def execDecC (s : State) : Result := decReg .c s

/-- INC_D (R227). -/
def execIncD (s : State) : Result := incReg .d s

/-- DEC_D (R229). -/
def execDecD (s : State) : Result := decReg .d s

/-- INC_E (R227). -/
def execIncE (s : State) : Result := incReg .e s

/-- DEC_E (R229). -/
def execDecE (s : State) : Result := decReg .e s

/-- INC_H (R227). -/
def execIncH (s : State) : Result := incReg .h s

/-- DEC_H (R229). -/
def execDecH (s : State) : Result := decReg .h s

/-- DAA (R231). -/
def execDaa (s : State) : Result := daa s

/-- INC_L (R227). -/
def execIncL (s : State) : Result := incReg .l s

/-- DEC_L (R229). -/
def execDecL (s : State) : Result := decReg .l s

/-- CPL (R232). -/
def execCpl (s : State) : Result := cpl s

/-- INC__HL (R228). -/
def execIncMemHl (s : State) : Result := incMem s

/-- DEC__HL (R230). -/
def execDecMemHl (s : State) : Result := decMem s

/-- SCF (R233). -/
def execScf (s : State) : Result := scf s

/-- INC_A (R227). -/
def execIncA (s : State) : Result := incReg .a s

/-- DEC_A (R229). -/
def execDecA (s : State) : Result := decReg .a s

/-- CCF (R234). -/
def execCcf (s : State) : Result := ccf s

/-- ADD_A_B (R203). -/
def execAddAB (s : State) : Result := aluReg .add .b s

/-- ADD_A_C (R203). -/
def execAddAC (s : State) : Result := aluReg .add .c s

/-- ADD_A_D (R203). -/
def execAddAD (s : State) : Result := aluReg .add .d s

/-- ADD_A_E (R203). -/
def execAddAE (s : State) : Result := aluReg .add .e s

/-- ADD_A_H (R203). -/
def execAddAH (s : State) : Result := aluReg .add .h s

/-- ADD_A_L (R203). -/
def execAddAL (s : State) : Result := aluReg .add .l s

/-- ADD_A__HL (R204). -/
def execAddAMemHl (s : State) : Result := aluMem .add s

/-- ADD_A_A (R203). -/
def execAddAA (s : State) : Result := aluReg .add .a s

/-- ADC_A_B (R206). -/
def execAdcAB (s : State) : Result := aluReg .adc .b s

/-- ADC_A_C (R206). -/
def execAdcAC (s : State) : Result := aluReg .adc .c s

/-- ADC_A_D (R206). -/
def execAdcAD (s : State) : Result := aluReg .adc .d s

/-- ADC_A_E (R206). -/
def execAdcAE (s : State) : Result := aluReg .adc .e s

/-- ADC_A_H (R206). -/
def execAdcAH (s : State) : Result := aluReg .adc .h s

/-- ADC_A_L (R206). -/
def execAdcAL (s : State) : Result := aluReg .adc .l s

/-- ADC_A__HL (R207). -/
def execAdcAMemHl (s : State) : Result := aluMem .adc s

/-- ADC_A_A (R206). -/
def execAdcAA (s : State) : Result := aluReg .adc .a s

/-- SUB_A_B (R209). -/
def execSubAB (s : State) : Result := aluReg .sub .b s

/-- SUB_A_C (R209). -/
def execSubAC (s : State) : Result := aluReg .sub .c s

/-- SUB_A_D (R209). -/
def execSubAD (s : State) : Result := aluReg .sub .d s

/-- SUB_A_E (R209). -/
def execSubAE (s : State) : Result := aluReg .sub .e s

/-- SUB_A_H (R209). -/
def execSubAH (s : State) : Result := aluReg .sub .h s

/-- SUB_A_L (R209). -/
def execSubAL (s : State) : Result := aluReg .sub .l s

/-- SUB_A__HL (R210). -/
def execSubAMemHl (s : State) : Result := aluMem .sub s

/-- SUB_A_A (R209). -/
def execSubAA (s : State) : Result := aluReg .sub .a s

/-- SBC_A_B (R212). -/
def execSbcAB (s : State) : Result := aluReg .sbc .b s

/-- SBC_A_C (R212). -/
def execSbcAC (s : State) : Result := aluReg .sbc .c s

/-- SBC_A_D (R212). -/
def execSbcAD (s : State) : Result := aluReg .sbc .d s

/-- SBC_A_E (R212). -/
def execSbcAE (s : State) : Result := aluReg .sbc .e s

/-- SBC_A_H (R212). -/
def execSbcAH (s : State) : Result := aluReg .sbc .h s

/-- SBC_A_L (R212). -/
def execSbcAL (s : State) : Result := aluReg .sbc .l s

/-- SBC_A__HL (R213). -/
def execSbcAMemHl (s : State) : Result := aluMem .sbc s

/-- SBC_A_A (R212). -/
def execSbcAA (s : State) : Result := aluReg .sbc .a s

/-- AND_A_B (R215). -/
def execAndAB (s : State) : Result := aluReg .and .b s

/-- AND_A_C (R215). -/
def execAndAC (s : State) : Result := aluReg .and .c s

/-- AND_A_D (R215). -/
def execAndAD (s : State) : Result := aluReg .and .d s

/-- AND_A_E (R215). -/
def execAndAE (s : State) : Result := aluReg .and .e s

/-- AND_A_H (R215). -/
def execAndAH (s : State) : Result := aluReg .and .h s

/-- AND_A_L (R215). -/
def execAndAL (s : State) : Result := aluReg .and .l s

/-- AND_A__HL (R216). -/
def execAndAMemHl (s : State) : Result := aluMem .and s

/-- AND_A_A (R215). -/
def execAndAA (s : State) : Result := aluReg .and .a s

/-- XOR_A_B (R218). -/
def execXorAB (s : State) : Result := aluReg .xor .b s

/-- XOR_A_C (R218). -/
def execXorAC (s : State) : Result := aluReg .xor .c s

/-- XOR_A_D (R218). -/
def execXorAD (s : State) : Result := aluReg .xor .d s

/-- XOR_A_E (R218). -/
def execXorAE (s : State) : Result := aluReg .xor .e s

/-- XOR_A_H (R218). -/
def execXorAH (s : State) : Result := aluReg .xor .h s

/-- XOR_A_L (R218). -/
def execXorAL (s : State) : Result := aluReg .xor .l s

/-- XOR_A__HL (R219). -/
def execXorAMemHl (s : State) : Result := aluMem .xor s

/-- XOR_A_A (R218). -/
def execXorAA (s : State) : Result := aluReg .xor .a s

/-- OR_A_B (R221). -/
def execOrAB (s : State) : Result := aluReg .or .b s

/-- OR_A_C (R221). -/
def execOrAC (s : State) : Result := aluReg .or .c s

/-- OR_A_D (R221). -/
def execOrAD (s : State) : Result := aluReg .or .d s

/-- OR_A_E (R221). -/
def execOrAE (s : State) : Result := aluReg .or .e s

/-- OR_A_H (R221). -/
def execOrAH (s : State) : Result := aluReg .or .h s

/-- OR_A_L (R221). -/
def execOrAL (s : State) : Result := aluReg .or .l s

/-- OR_A__HL (R222). -/
def execOrAMemHl (s : State) : Result := aluMem .or s

/-- OR_A_A (R221). -/
def execOrAA (s : State) : Result := aluReg .or .a s

/-- CP_A_B (R224). -/
def execCpAB (s : State) : Result := aluReg .cp .b s

/-- CP_A_C (R224). -/
def execCpAC (s : State) : Result := aluReg .cp .c s

/-- CP_A_D (R224). -/
def execCpAD (s : State) : Result := aluReg .cp .d s

/-- CP_A_E (R224). -/
def execCpAE (s : State) : Result := aluReg .cp .e s

/-- CP_A_H (R224). -/
def execCpAH (s : State) : Result := aluReg .cp .h s

/-- CP_A_L (R224). -/
def execCpAL (s : State) : Result := aluReg .cp .l s

/-- CP_A__HL (R225). -/
def execCpAMemHl (s : State) : Result := aluMem .cp s

/-- CP_A_A (R224). -/
def execCpAA (s : State) : Result := aluReg .cp .a s

/-- ADD_A_n8 (R205). -/
def execAddAN8 (n : Byte) (s : State) : Result := aluImm .add n s

/-- ADC_A_n8 (R208). -/
def execAdcAN8 (n : Byte) (s : State) : Result := aluImm .adc n s

/-- SUB_A_n8 (R211). -/
def execSubAN8 (n : Byte) (s : State) : Result := aluImm .sub n s

/-- SBC_A_n8 (R214). -/
def execSbcAN8 (n : Byte) (s : State) : Result := aluImm .sbc n s

/-- AND_A_n8 (R217). -/
def execAndAN8 (n : Byte) (s : State) : Result := aluImm .and n s

/-- XOR_A_n8 (R220). -/
def execXorAN8 (n : Byte) (s : State) : Result := aluImm .xor n s

/-- OR_A_n8 (R223). -/
def execOrAN8 (n : Byte) (s : State) : Result := aluImm .or n s

/-- CP_A_n8 (R226). -/
def execCpAN8 (n : Byte) (s : State) : Result := aluImm .cp n s

end Sys2Proof.Machine
end

