-- ==== Sys2Proof/Machine/BitOps.lean ====
section
/-! DEFINITION. The meanings of 43_rotate_shift_bit.md: bit test, reset and set (R291 to R296). A meaning per rule, then one definition per instruction. -/

namespace Sys2Proof.Machine

/-- The flags of BIT: Z is the complement of the tested bit, C unchanged (R291). -/
def State.bitFlags (s : State) (b : BitVec 3) (o : Byte) : State := s.setZNH (!o.getLsbD b.toNat) false true

/-- `BIT b,r8` (R291). -/
def bitReg (b : BitVec 3) (r : R8) (s : State) : Result := s.regOperand r fun v => finish (s.bitFlags b v)

/-- `BIT b,(HL)`: no write M-cycle (R292). -/
def bitMem (b : BitVec 3) (s : State) : Result := s.hlOperand fun v s => finish (s.bitFlags b v)

/-- `RES b,r8` (R293). -/
def resReg (b : BitVec 3) (r : R8) (s : State) : Result :=
  s.regOperand r fun v => finish (s.setReg r (v &&& ~~~bitByte b.toNat))

/-- `RES b,(HL)`: the write happens in any case (R294). -/
def resMem (b : BitVec 3) (s : State) : Result := s.modifyHl [] fun v s => (v &&& ~~~bitByte b.toNat, s)

/-- `SET b,r8` (R295). -/
def setReg (b : BitVec 3) (r : R8) (s : State) : Result :=
  s.regOperand r fun v => finish (s.setReg r (v ||| bitByte b.toNat))

/-- `SET b,(HL)` (R296). -/
def setMem (b : BitVec 3) (s : State) : Result := s.modifyHl [] fun v s => (v ||| bitByte b.toNat, s)

/-! ## The instructions -/

/-- BIT_0_B (R291). -/
def execBit0B (s : State) : Result := bitReg 0 .b s

/-- BIT_0_C (R291). -/
def execBit0C (s : State) : Result := bitReg 0 .c s

/-- BIT_0_D (R291). -/
def execBit0D (s : State) : Result := bitReg 0 .d s

/-- BIT_0_E (R291). -/
def execBit0E (s : State) : Result := bitReg 0 .e s

/-- BIT_0_H (R291). -/
def execBit0H (s : State) : Result := bitReg 0 .h s

/-- BIT_0_L (R291). -/
def execBit0L (s : State) : Result := bitReg 0 .l s

/-- BIT_0__HL (R292). -/
def execBit0MemHl (s : State) : Result := bitMem 0 s

/-- BIT_0_A (R291). -/
def execBit0A (s : State) : Result := bitReg 0 .a s

/-- BIT_1_B (R291). -/
def execBit1B (s : State) : Result := bitReg 1 .b s

/-- BIT_1_C (R291). -/
def execBit1C (s : State) : Result := bitReg 1 .c s

/-- BIT_1_D (R291). -/
def execBit1D (s : State) : Result := bitReg 1 .d s

/-- BIT_1_E (R291). -/
def execBit1E (s : State) : Result := bitReg 1 .e s

/-- BIT_1_H (R291). -/
def execBit1H (s : State) : Result := bitReg 1 .h s

/-- BIT_1_L (R291). -/
def execBit1L (s : State) : Result := bitReg 1 .l s

/-- BIT_1__HL (R292). -/
def execBit1MemHl (s : State) : Result := bitMem 1 s

/-- BIT_1_A (R291). -/
def execBit1A (s : State) : Result := bitReg 1 .a s

/-- BIT_2_B (R291). -/
def execBit2B (s : State) : Result := bitReg 2 .b s

/-- BIT_2_C (R291). -/
def execBit2C (s : State) : Result := bitReg 2 .c s

/-- BIT_2_D (R291). -/
def execBit2D (s : State) : Result := bitReg 2 .d s

/-- BIT_2_E (R291). -/
def execBit2E (s : State) : Result := bitReg 2 .e s

/-- BIT_2_H (R291). -/
def execBit2H (s : State) : Result := bitReg 2 .h s

/-- BIT_2_L (R291). -/
def execBit2L (s : State) : Result := bitReg 2 .l s

/-- BIT_2__HL (R292). -/
def execBit2MemHl (s : State) : Result := bitMem 2 s

/-- BIT_2_A (R291). -/
def execBit2A (s : State) : Result := bitReg 2 .a s

/-- BIT_3_B (R291). -/
def execBit3B (s : State) : Result := bitReg 3 .b s

/-- BIT_3_C (R291). -/
def execBit3C (s : State) : Result := bitReg 3 .c s

/-- BIT_3_D (R291). -/
def execBit3D (s : State) : Result := bitReg 3 .d s

/-- BIT_3_E (R291). -/
def execBit3E (s : State) : Result := bitReg 3 .e s

/-- BIT_3_H (R291). -/
def execBit3H (s : State) : Result := bitReg 3 .h s

/-- BIT_3_L (R291). -/
def execBit3L (s : State) : Result := bitReg 3 .l s

/-- BIT_3__HL (R292). -/
def execBit3MemHl (s : State) : Result := bitMem 3 s

/-- BIT_3_A (R291). -/
def execBit3A (s : State) : Result := bitReg 3 .a s

/-- BIT_4_B (R291). -/
def execBit4B (s : State) : Result := bitReg 4 .b s

/-- BIT_4_C (R291). -/
def execBit4C (s : State) : Result := bitReg 4 .c s

/-- BIT_4_D (R291). -/
def execBit4D (s : State) : Result := bitReg 4 .d s

/-- BIT_4_E (R291). -/
def execBit4E (s : State) : Result := bitReg 4 .e s

/-- BIT_4_H (R291). -/
def execBit4H (s : State) : Result := bitReg 4 .h s

/-- BIT_4_L (R291). -/
def execBit4L (s : State) : Result := bitReg 4 .l s

/-- BIT_4__HL (R292). -/
def execBit4MemHl (s : State) : Result := bitMem 4 s

/-- BIT_4_A (R291). -/
def execBit4A (s : State) : Result := bitReg 4 .a s

/-- BIT_5_B (R291). -/
def execBit5B (s : State) : Result := bitReg 5 .b s

/-- BIT_5_C (R291). -/
def execBit5C (s : State) : Result := bitReg 5 .c s

/-- BIT_5_D (R291). -/
def execBit5D (s : State) : Result := bitReg 5 .d s

/-- BIT_5_E (R291). -/
def execBit5E (s : State) : Result := bitReg 5 .e s

/-- BIT_5_H (R291). -/
def execBit5H (s : State) : Result := bitReg 5 .h s

/-- BIT_5_L (R291). -/
def execBit5L (s : State) : Result := bitReg 5 .l s

/-- BIT_5__HL (R292). -/
def execBit5MemHl (s : State) : Result := bitMem 5 s

/-- BIT_5_A (R291). -/
def execBit5A (s : State) : Result := bitReg 5 .a s

/-- BIT_6_B (R291). -/
def execBit6B (s : State) : Result := bitReg 6 .b s

/-- BIT_6_C (R291). -/
def execBit6C (s : State) : Result := bitReg 6 .c s

/-- BIT_6_D (R291). -/
def execBit6D (s : State) : Result := bitReg 6 .d s

/-- BIT_6_E (R291). -/
def execBit6E (s : State) : Result := bitReg 6 .e s

/-- BIT_6_H (R291). -/
def execBit6H (s : State) : Result := bitReg 6 .h s

/-- BIT_6_L (R291). -/
def execBit6L (s : State) : Result := bitReg 6 .l s

/-- BIT_6__HL (R292). -/
def execBit6MemHl (s : State) : Result := bitMem 6 s

/-- BIT_6_A (R291). -/
def execBit6A (s : State) : Result := bitReg 6 .a s

/-- BIT_7_B (R291). -/
def execBit7B (s : State) : Result := bitReg 7 .b s

/-- BIT_7_C (R291). -/
def execBit7C (s : State) : Result := bitReg 7 .c s

/-- BIT_7_D (R291). -/
def execBit7D (s : State) : Result := bitReg 7 .d s

/-- BIT_7_E (R291). -/
def execBit7E (s : State) : Result := bitReg 7 .e s

/-- BIT_7_H (R291). -/
def execBit7H (s : State) : Result := bitReg 7 .h s

/-- BIT_7_L (R291). -/
def execBit7L (s : State) : Result := bitReg 7 .l s

/-- BIT_7__HL (R292). -/
def execBit7MemHl (s : State) : Result := bitMem 7 s

/-- BIT_7_A (R291). -/
def execBit7A (s : State) : Result := bitReg 7 .a s

/-- RES_0_B (R293). -/
def execRes0B (s : State) : Result := resReg 0 .b s

/-- RES_0_C (R293). -/
def execRes0C (s : State) : Result := resReg 0 .c s

/-- RES_0_D (R293). -/
def execRes0D (s : State) : Result := resReg 0 .d s

/-- RES_0_E (R293). -/
def execRes0E (s : State) : Result := resReg 0 .e s

/-- RES_0_H (R293). -/
def execRes0H (s : State) : Result := resReg 0 .h s

/-- RES_0_L (R293). -/
def execRes0L (s : State) : Result := resReg 0 .l s

/-- RES_0__HL (R294). -/
def execRes0MemHl (s : State) : Result := resMem 0 s

/-- RES_0_A (R293). -/
def execRes0A (s : State) : Result := resReg 0 .a s

/-- RES_1_B (R293). -/
def execRes1B (s : State) : Result := resReg 1 .b s

/-- RES_1_C (R293). -/
def execRes1C (s : State) : Result := resReg 1 .c s

/-- RES_1_D (R293). -/
def execRes1D (s : State) : Result := resReg 1 .d s

/-- RES_1_E (R293). -/
def execRes1E (s : State) : Result := resReg 1 .e s

/-- RES_1_H (R293). -/
def execRes1H (s : State) : Result := resReg 1 .h s

/-- RES_1_L (R293). -/
def execRes1L (s : State) : Result := resReg 1 .l s

/-- RES_1__HL (R294). -/
def execRes1MemHl (s : State) : Result := resMem 1 s

/-- RES_1_A (R293). -/
def execRes1A (s : State) : Result := resReg 1 .a s

/-- RES_2_B (R293). -/
def execRes2B (s : State) : Result := resReg 2 .b s

/-- RES_2_C (R293). -/
def execRes2C (s : State) : Result := resReg 2 .c s

/-- RES_2_D (R293). -/
def execRes2D (s : State) : Result := resReg 2 .d s

/-- RES_2_E (R293). -/
def execRes2E (s : State) : Result := resReg 2 .e s

/-- RES_2_H (R293). -/
def execRes2H (s : State) : Result := resReg 2 .h s

/-- RES_2_L (R293). -/
def execRes2L (s : State) : Result := resReg 2 .l s

/-- RES_2__HL (R294). -/
def execRes2MemHl (s : State) : Result := resMem 2 s

/-- RES_2_A (R293). -/
def execRes2A (s : State) : Result := resReg 2 .a s

/-- RES_3_B (R293). -/
def execRes3B (s : State) : Result := resReg 3 .b s

/-- RES_3_C (R293). -/
def execRes3C (s : State) : Result := resReg 3 .c s

/-- RES_3_D (R293). -/
def execRes3D (s : State) : Result := resReg 3 .d s

/-- RES_3_E (R293). -/
def execRes3E (s : State) : Result := resReg 3 .e s

/-- RES_3_H (R293). -/
def execRes3H (s : State) : Result := resReg 3 .h s

/-- RES_3_L (R293). -/
def execRes3L (s : State) : Result := resReg 3 .l s

/-- RES_3__HL (R294). -/
def execRes3MemHl (s : State) : Result := resMem 3 s

/-- RES_3_A (R293). -/
def execRes3A (s : State) : Result := resReg 3 .a s

/-- RES_4_B (R293). -/
def execRes4B (s : State) : Result := resReg 4 .b s

/-- RES_4_C (R293). -/
def execRes4C (s : State) : Result := resReg 4 .c s

/-- RES_4_D (R293). -/
def execRes4D (s : State) : Result := resReg 4 .d s

/-- RES_4_E (R293). -/
def execRes4E (s : State) : Result := resReg 4 .e s

/-- RES_4_H (R293). -/
def execRes4H (s : State) : Result := resReg 4 .h s

/-- RES_4_L (R293). -/
def execRes4L (s : State) : Result := resReg 4 .l s

/-- RES_4__HL (R294). -/
def execRes4MemHl (s : State) : Result := resMem 4 s

/-- RES_4_A (R293). -/
def execRes4A (s : State) : Result := resReg 4 .a s

/-- RES_5_B (R293). -/
def execRes5B (s : State) : Result := resReg 5 .b s

/-- RES_5_C (R293). -/
def execRes5C (s : State) : Result := resReg 5 .c s

/-- RES_5_D (R293). -/
def execRes5D (s : State) : Result := resReg 5 .d s

/-- RES_5_E (R293). -/
def execRes5E (s : State) : Result := resReg 5 .e s

/-- RES_5_H (R293). -/
def execRes5H (s : State) : Result := resReg 5 .h s

/-- RES_5_L (R293). -/
def execRes5L (s : State) : Result := resReg 5 .l s

/-- RES_5__HL (R294). -/
def execRes5MemHl (s : State) : Result := resMem 5 s

/-- RES_5_A (R293). -/
def execRes5A (s : State) : Result := resReg 5 .a s

/-- RES_6_B (R293). -/
def execRes6B (s : State) : Result := resReg 6 .b s

/-- RES_6_C (R293). -/
def execRes6C (s : State) : Result := resReg 6 .c s

/-- RES_6_D (R293). -/
def execRes6D (s : State) : Result := resReg 6 .d s

/-- RES_6_E (R293). -/
def execRes6E (s : State) : Result := resReg 6 .e s

/-- RES_6_H (R293). -/
def execRes6H (s : State) : Result := resReg 6 .h s

/-- RES_6_L (R293). -/
def execRes6L (s : State) : Result := resReg 6 .l s

/-- RES_6__HL (R294). -/
def execRes6MemHl (s : State) : Result := resMem 6 s

/-- RES_6_A (R293). -/
def execRes6A (s : State) : Result := resReg 6 .a s

/-- RES_7_B (R293). -/
def execRes7B (s : State) : Result := resReg 7 .b s

/-- RES_7_C (R293). -/
def execRes7C (s : State) : Result := resReg 7 .c s

/-- RES_7_D (R293). -/
def execRes7D (s : State) : Result := resReg 7 .d s

/-- RES_7_E (R293). -/
def execRes7E (s : State) : Result := resReg 7 .e s

/-- RES_7_H (R293). -/
def execRes7H (s : State) : Result := resReg 7 .h s

/-- RES_7_L (R293). -/
def execRes7L (s : State) : Result := resReg 7 .l s

/-- RES_7__HL (R294). -/
def execRes7MemHl (s : State) : Result := resMem 7 s

/-- RES_7_A (R293). -/
def execRes7A (s : State) : Result := resReg 7 .a s

/-- SET_0_B (R295). -/
def execSet0B (s : State) : Result := setReg 0 .b s

/-- SET_0_C (R295). -/
def execSet0C (s : State) : Result := setReg 0 .c s

/-- SET_0_D (R295). -/
def execSet0D (s : State) : Result := setReg 0 .d s

/-- SET_0_E (R295). -/
def execSet0E (s : State) : Result := setReg 0 .e s

/-- SET_0_H (R295). -/
def execSet0H (s : State) : Result := setReg 0 .h s

/-- SET_0_L (R295). -/
def execSet0L (s : State) : Result := setReg 0 .l s

/-- SET_0__HL (R296). -/
def execSet0MemHl (s : State) : Result := setMem 0 s

/-- SET_0_A (R295). -/
def execSet0A (s : State) : Result := setReg 0 .a s

/-- SET_1_B (R295). -/
def execSet1B (s : State) : Result := setReg 1 .b s

/-- SET_1_C (R295). -/
def execSet1C (s : State) : Result := setReg 1 .c s

/-- SET_1_D (R295). -/
def execSet1D (s : State) : Result := setReg 1 .d s

/-- SET_1_E (R295). -/
def execSet1E (s : State) : Result := setReg 1 .e s

/-- SET_1_H (R295). -/
def execSet1H (s : State) : Result := setReg 1 .h s

/-- SET_1_L (R295). -/
def execSet1L (s : State) : Result := setReg 1 .l s

/-- SET_1__HL (R296). -/
def execSet1MemHl (s : State) : Result := setMem 1 s

/-- SET_1_A (R295). -/
def execSet1A (s : State) : Result := setReg 1 .a s

/-- SET_2_B (R295). -/
def execSet2B (s : State) : Result := setReg 2 .b s

/-- SET_2_C (R295). -/
def execSet2C (s : State) : Result := setReg 2 .c s

/-- SET_2_D (R295). -/
def execSet2D (s : State) : Result := setReg 2 .d s

/-- SET_2_E (R295). -/
def execSet2E (s : State) : Result := setReg 2 .e s

/-- SET_2_H (R295). -/
def execSet2H (s : State) : Result := setReg 2 .h s

/-- SET_2_L (R295). -/
def execSet2L (s : State) : Result := setReg 2 .l s

/-- SET_2__HL (R296). -/
def execSet2MemHl (s : State) : Result := setMem 2 s

/-- SET_2_A (R295). -/
def execSet2A (s : State) : Result := setReg 2 .a s

/-- SET_3_B (R295). -/
def execSet3B (s : State) : Result := setReg 3 .b s

/-- SET_3_C (R295). -/
def execSet3C (s : State) : Result := setReg 3 .c s

/-- SET_3_D (R295). -/
def execSet3D (s : State) : Result := setReg 3 .d s

/-- SET_3_E (R295). -/
def execSet3E (s : State) : Result := setReg 3 .e s

/-- SET_3_H (R295). -/
def execSet3H (s : State) : Result := setReg 3 .h s

/-- SET_3_L (R295). -/
def execSet3L (s : State) : Result := setReg 3 .l s

/-- SET_3__HL (R296). -/
def execSet3MemHl (s : State) : Result := setMem 3 s

/-- SET_3_A (R295). -/
def execSet3A (s : State) : Result := setReg 3 .a s

/-- SET_4_B (R295). -/
def execSet4B (s : State) : Result := setReg 4 .b s

/-- SET_4_C (R295). -/
def execSet4C (s : State) : Result := setReg 4 .c s

/-- SET_4_D (R295). -/
def execSet4D (s : State) : Result := setReg 4 .d s

/-- SET_4_E (R295). -/
def execSet4E (s : State) : Result := setReg 4 .e s

/-- SET_4_H (R295). -/
def execSet4H (s : State) : Result := setReg 4 .h s

/-- SET_4_L (R295). -/
def execSet4L (s : State) : Result := setReg 4 .l s

/-- SET_4__HL (R296). -/
def execSet4MemHl (s : State) : Result := setMem 4 s

/-- SET_4_A (R295). -/
def execSet4A (s : State) : Result := setReg 4 .a s

/-- SET_5_B (R295). -/
def execSet5B (s : State) : Result := setReg 5 .b s

/-- SET_5_C (R295). -/
def execSet5C (s : State) : Result := setReg 5 .c s

/-- SET_5_D (R295). -/
def execSet5D (s : State) : Result := setReg 5 .d s

/-- SET_5_E (R295). -/
def execSet5E (s : State) : Result := setReg 5 .e s

/-- SET_5_H (R295). -/
def execSet5H (s : State) : Result := setReg 5 .h s

/-- SET_5_L (R295). -/
def execSet5L (s : State) : Result := setReg 5 .l s

/-- SET_5__HL (R296). -/
def execSet5MemHl (s : State) : Result := setMem 5 s

/-- SET_5_A (R295). -/
def execSet5A (s : State) : Result := setReg 5 .a s

/-- SET_6_B (R295). -/
def execSet6B (s : State) : Result := setReg 6 .b s

/-- SET_6_C (R295). -/
def execSet6C (s : State) : Result := setReg 6 .c s

/-- SET_6_D (R295). -/
def execSet6D (s : State) : Result := setReg 6 .d s

/-- SET_6_E (R295). -/
def execSet6E (s : State) : Result := setReg 6 .e s

/-- SET_6_H (R295). -/
def execSet6H (s : State) : Result := setReg 6 .h s

/-- SET_6_L (R295). -/
def execSet6L (s : State) : Result := setReg 6 .l s

/-- SET_6__HL (R296). -/
def execSet6MemHl (s : State) : Result := setMem 6 s

/-- SET_6_A (R295). -/
def execSet6A (s : State) : Result := setReg 6 .a s

/-- SET_7_B (R295). -/
def execSet7B (s : State) : Result := setReg 7 .b s

/-- SET_7_C (R295). -/
def execSet7C (s : State) : Result := setReg 7 .c s

/-- SET_7_D (R295). -/
def execSet7D (s : State) : Result := setReg 7 .d s

/-- SET_7_E (R295). -/
def execSet7E (s : State) : Result := setReg 7 .e s

/-- SET_7_H (R295). -/
def execSet7H (s : State) : Result := setReg 7 .h s

/-- SET_7_L (R295). -/
def execSet7L (s : State) : Result := setReg 7 .l s

/-- SET_7__HL (R296). -/
def execSet7MemHl (s : State) : Result := setMem 7 s

/-- SET_7_A (R295). -/
def execSet7A (s : State) : Result := setReg 7 .a s

end Sys2Proof.Machine
end

