-- ==== Sys2Proof/Machine/Control.lean ====
section
/-! DEFINITION. The meanings of 44_control.md: jumps, calls and returns (R310 to R322). pc is the address after the instruction (R25). A meaning per rule, then one definition per instruction. -/

namespace Sys2Proof.Machine

/-- The jump of `JP a16`: pc changes, in an internal M-cycle (R311). -/
def jp (nn : Word) (s : State) : Result := finish (s.internalNext.setPc nn)

/-- `JP cc,a16` (R312). -/
def jpCc (cc : Cond) (nn : Word) (s : State) : Result := s.ifCond cc (jp nn s) (finish s)

/-- `JP HL` (R313). -/
def jpHl (s : State) : Result := s.reading [.h, .l] <| finish (s.setPc s.hl)

/-- `JR e8` (R314). -/
def jr (e : Byte) (s : State) : Result := finish (s.internalNext.setPc (s.relative e))

/-- `JR cc,e8` (R315). -/
def jrCc (cc : Cond) (e : Byte) (s : State) : Result := s.ifCond cc (jr e s) (finish s)

/-- `CALL a16` (R316). -/
def call (nn : Word) (s : State) : Result :=
  s.internalNext.pushWord s.cpu.pc fun s => finish (s.setPc nn)

/-- `CALL cc,a16` (R317). -/
def callCc (cc : Cond) (nn : Word) (s : State) : Result := s.ifCond cc (call nn s) (finish s)

/-- `RET` (R318). -/
def ret (s : State) : Result := s.popWord fun v s => finish (s.internalNext.setPc v)

/-- `RET cc`: the condition is evaluated in an internal M-cycle (R319). -/
def retCc (cc : Cond) (s : State) : Result := s.internalNext.ifCond cc (ret s.internalNext) (finish s.internalNext)

/-- `RETI` (R320). -/
def reti (s : State) : Result := s.returnFromInterrupt

/-- `RST tgt` (R321). -/
def rst (t : BitVec 3) (s : State) : Result :=
  s.internalNext.pushWord s.cpu.pc fun s => finish (s.setPc (rstTarget t))

/-! ## The instructions -/

/-- JR_e8 (R314). -/
def execJrE8 (e : Byte) (s : State) : Result := jr e s

/-- JR_NZ_e8 (R315). -/
def execJrNzE8 (e : Byte) (s : State) : Result := jrCc .nz e s

/-- JR_Z_e8 (R315). -/
def execJrZE8 (e : Byte) (s : State) : Result := jrCc .z e s

/-- JR_NC_e8 (R315). -/
def execJrNcE8 (e : Byte) (s : State) : Result := jrCc .nc e s

/-- JR_C_e8 (R315). -/
def execJrCE8 (e : Byte) (s : State) : Result := jrCc .c e s

/-- RET_NZ (R319). -/
def execRetNz (s : State) : Result := retCc .nz s

/-- JP_NZ_a16 (R312). -/
def execJpNzA16 (nn : Word) (s : State) : Result := jpCc .nz nn s

/-- JP_a16 (R311). -/
def execJpA16 (nn : Word) (s : State) : Result := jp nn s

/-- CALL_NZ_a16 (R317). -/
def execCallNzA16 (nn : Word) (s : State) : Result := callCc .nz nn s

/-- RST_0x00 (R321). -/
def execRst00 (s : State) : Result := rst 0 s

/-- RET_Z (R319). -/
def execRetZ (s : State) : Result := retCc .z s

/-- RET (R318). -/
def execRet (s : State) : Result := ret s

/-- JP_Z_a16 (R312). -/
def execJpZA16 (nn : Word) (s : State) : Result := jpCc .z nn s

/-- CALL_Z_a16 (R317). -/
def execCallZA16 (nn : Word) (s : State) : Result := callCc .z nn s

/-- CALL_a16 (R316). -/
def execCallA16 (nn : Word) (s : State) : Result := call nn s

/-- RST_0x08 (R321). -/
def execRst08 (s : State) : Result := rst 1 s

/-- RET_NC (R319). -/
def execRetNc (s : State) : Result := retCc .nc s

/-- JP_NC_a16 (R312). -/
def execJpNcA16 (nn : Word) (s : State) : Result := jpCc .nc nn s

/-- CALL_NC_a16 (R317). -/
def execCallNcA16 (nn : Word) (s : State) : Result := callCc .nc nn s

/-- RST_0x10 (R321). -/
def execRst10 (s : State) : Result := rst 2 s

/-- RET_C (R319). -/
def execRetC (s : State) : Result := retCc .c s

/-- RETI (R320). -/
def execReti (s : State) : Result := reti s

/-- JP_C_a16 (R312). -/
def execJpCA16 (nn : Word) (s : State) : Result := jpCc .c nn s

/-- CALL_C_a16 (R317). -/
def execCallCA16 (nn : Word) (s : State) : Result := callCc .c nn s

/-- RST_0x18 (R321). -/
def execRst18 (s : State) : Result := rst 3 s

/-- RST_0x20 (R321). -/
def execRst20 (s : State) : Result := rst 4 s

/-- JP_HL (R313). -/
def execJpHl (s : State) : Result := jpHl s

/-- RST_0x28 (R321). -/
def execRst28 (s : State) : Result := rst 5 s

/-- RST_0x30 (R321). -/
def execRst30 (s : State) : Result := rst 6 s

/-- RST_0x38 (R321). -/
def execRst38 (s : State) : Result := rst 7 s

end Sys2Proof.Machine
end

