-- ==== Sys2Proof/Machine/Loads.lean ====
section
/-! DEFINITION. The meanings of 40_load.md: loads, stores and stack transfers (R160 to R183). No flag is written but by POP AF. A meaning per rule, then one definition per instruction. -/

namespace Sys2Proof.Machine

/-- `LD r8,r8'` (R160). -/
def ldRegReg (dst src : R8) (s : State) : Result := s.regOperand src fun v => finish (s.setReg dst v)

/-- `LD r8,n8` (R161). -/
def ldRegImm (dst : R8) (n : Byte) (s : State) : Result := finish (s.setReg dst n)

/-- `LD r8,(HL)` (R162). -/
def ldRegMem (dst : R8) (s : State) : Result := s.hlOperand fun v s => finish (s.setReg dst v)

/-- `LD (HL),r8` (R163). -/
def ldMemReg (src : R8) (s : State) : Result :=
  s.internalNext.reading [.h, .l, regName src] <| s.writeNext s.hl (s.reg src) finish

/-- `LD (HL),n8` (R164). -/
def ldMemImm (n : Byte) (s : State) : Result := s.storeHl n

/-- `LD A,(BC)`, `LD A,(DE)` (R165, R166). -/
def ldAPtr (p : Ptr) (s : State) : Result :=
  s.internalNext.reading (pairNames (ptrPair p)) <| s.readNext (s.ptr p) fun v s => finish (s.setReg .a v)

/-- `LD (BC),A`, `LD (DE),A` (R167, R168). -/
def ldPtrA (p : Ptr) (s : State) : Result :=
  s.internalNext.reading (pairNames (ptrPair p) ++ [.a]) <| s.writeNext (s.ptr p) s.cpu.a finish

/-- `LD A,(a16)` (R169). -/
def ldAAbs (nn : Word) (s : State) : Result := s.readNext nn fun v s => finish (s.setReg .a v)

/-- `LD (a16),A` (R170). -/
def ldAbsA (nn : Word) (s : State) : Result := s.internalNext.reading [.a] <| s.writeNext nn s.cpu.a finish

/-- `LDH A,(C)` (R171). -/
def ldhAC (s : State) : Result := s.internalNext.reading [.c] <| s.readNext s.highC fun v s => finish (s.setReg .a v)

/-- `LDH (C),A` (R172). -/
def ldhCA (s : State) : Result := s.internalNext.reading [.c, .a] <| s.writeNext s.highC s.cpu.a finish

/-- `LDH A,(a8)` (R173). -/
def ldhAImm (n : Byte) (s : State) : Result := s.readNext (highPage n) fun v s => finish (s.setReg .a v)

/-- `LDH (a8),A` (R174). -/
def ldhImmA (n : Byte) (s : State) : Result := s.internalNext.reading [.a] <| s.writeNext (highPage n) s.cpu.a finish

/-- `LD A,(HL+)` (R175). -/
def ldAHlInc (s : State) : Result :=
  s.hlOperand fun v s => finish ((s.setReg .a v).setPair .hl (s.hl + 1))

/-- `LD A,(HL-)` (R176). -/
def ldAHlDec (s : State) : Result :=
  s.hlOperand fun v s => finish ((s.setReg .a v).setPair .hl (s.hl - 1))

/-- `LD (HL+),A` (R177). -/
def ldHlIncA (s : State) : Result :=
  s.internalNext.reading [.h, .l, .a] <| s.writeNext s.hl s.cpu.a fun s => finish (s.setPair .hl (s.hl + 1))

/-- `LD (HL-),A` (R178). -/
def ldHlDecA (s : State) : Result :=
  s.internalNext.reading [.h, .l, .a] <| s.writeNext s.hl s.cpu.a fun s => finish (s.setPair .hl (s.hl - 1))

/-- `LD r16,n16` (R179). -/
def ldPairImm (rr : R16) (nn : Word) (s : State) : Result := finish (s.setPair rr nn)

/-- `LD (a16),SP`, the low byte first (R180). -/
def ldAbsSp (nn : Word) (s : State) : Result :=
  s.internalNext.reading [.sp] <| s.writeNext nn (loByte s.cpu.sp) fun s => s.writeNext (nn + 1) (hiByte s.cpu.sp) finish

/-- `LD SP,HL` (R181). -/
def ldSpHl (s : State) : Result := s.internalNext.reading [.h, .l] <| finish (s.internalNext.setSp s.hl)

/-- `PUSH r16stk` (R182). -/
def push (rr : R16Stk) (s : State) : Result :=
  s.internalNext.reading (stkNames rr) <| s.internalNext.pushWord (s.stkPair rr) finish

/-- `POP r16stk` (R183). -/
def pop (rr : R16Stk) (s : State) : Result := s.popWord fun v s => finish (s.setStkPair rr v)

/-! ## The instructions -/

/-- LD_BC_n16 (R179). -/
def execLdBcN16 (nn : Word) (s : State) : Result := ldPairImm .bc nn s

/-- LD__BC__A (R167). -/
def execLdMemBcA (s : State) : Result := ldPtrA .bc s

/-- LD_B_n8 (R161). -/
def execLdBN8 (n : Byte) (s : State) : Result := ldRegImm .b n s

/-- LD__a16__SP (R180). -/
def execLdMemA16Sp (nn : Word) (s : State) : Result := ldAbsSp nn s

/-- LD_A__BC (R165). -/
def execLdAMemBc (s : State) : Result := ldAPtr .bc s

/-- LD_C_n8 (R161). -/
def execLdCN8 (n : Byte) (s : State) : Result := ldRegImm .c n s

/-- LD_DE_n16 (R179). -/
def execLdDeN16 (nn : Word) (s : State) : Result := ldPairImm .de nn s

/-- LD__DE__A (R168). -/
def execLdMemDeA (s : State) : Result := ldPtrA .de s

/-- LD_D_n8 (R161). -/
def execLdDN8 (n : Byte) (s : State) : Result := ldRegImm .d n s

/-- LD_A__DE (R166). -/
def execLdAMemDe (s : State) : Result := ldAPtr .de s

/-- LD_E_n8 (R161). -/
def execLdEN8 (n : Byte) (s : State) : Result := ldRegImm .e n s

/-- LD_HL_n16 (R179). -/
def execLdHlN16 (nn : Word) (s : State) : Result := ldPairImm .hl nn s

/-- LD__HL+__A (R177). -/
def execLdMemHlIncA (s : State) : Result := ldHlIncA s

/-- LD_H_n8 (R161). -/
def execLdHN8 (n : Byte) (s : State) : Result := ldRegImm .h n s

/-- LD_A__HL+ (R175). -/
def execLdAMemHlInc (s : State) : Result := ldAHlInc s

/-- LD_L_n8 (R161). -/
def execLdLN8 (n : Byte) (s : State) : Result := ldRegImm .l n s

/-- LD_SP_n16 (R179). -/
def execLdSpN16 (nn : Word) (s : State) : Result := ldPairImm .sp nn s

/-- LD__HL-__A (R178). -/
def execLdMemHlDecA (s : State) : Result := ldHlDecA s

/-- LD__HL__n8 (R164). -/
def execLdMemHlN8 (n : Byte) (s : State) : Result := ldMemImm n s

/-- LD_A__HL- (R176). -/
def execLdAMemHlDec (s : State) : Result := ldAHlDec s

/-- LD_A_n8 (R161). -/
def execLdAN8 (n : Byte) (s : State) : Result := ldRegImm .a n s

/-- LD_B_B (R160). -/
def execLdBB (s : State) : Result := ldRegReg .b .b s

/-- LD_B_C (R160). -/
def execLdBC (s : State) : Result := ldRegReg .b .c s

/-- LD_B_D (R160). -/
def execLdBD (s : State) : Result := ldRegReg .b .d s

/-- LD_B_E (R160). -/
def execLdBE (s : State) : Result := ldRegReg .b .e s

/-- LD_B_H (R160). -/
def execLdBH (s : State) : Result := ldRegReg .b .h s

/-- LD_B_L (R160). -/
def execLdBL (s : State) : Result := ldRegReg .b .l s

/-- LD_B__HL (R162). -/
def execLdBMemHl (s : State) : Result := ldRegMem .b s

/-- LD_B_A (R160). -/
def execLdBA (s : State) : Result := ldRegReg .b .a s

/-- LD_C_B (R160). -/
def execLdCB (s : State) : Result := ldRegReg .c .b s

/-- LD_C_C (R160). -/
def execLdCC (s : State) : Result := ldRegReg .c .c s

/-- LD_C_D (R160). -/
def execLdCD (s : State) : Result := ldRegReg .c .d s

/-- LD_C_E (R160). -/
def execLdCE (s : State) : Result := ldRegReg .c .e s

/-- LD_C_H (R160). -/
def execLdCH (s : State) : Result := ldRegReg .c .h s

/-- LD_C_L (R160). -/
def execLdCL (s : State) : Result := ldRegReg .c .l s

/-- LD_C__HL (R162). -/
def execLdCMemHl (s : State) : Result := ldRegMem .c s

/-- LD_C_A (R160). -/
def execLdCA (s : State) : Result := ldRegReg .c .a s

/-- LD_D_B (R160). -/
def execLdDB (s : State) : Result := ldRegReg .d .b s

/-- LD_D_C (R160). -/
def execLdDC (s : State) : Result := ldRegReg .d .c s

/-- LD_D_D (R160). -/
def execLdDD (s : State) : Result := ldRegReg .d .d s

/-- LD_D_E (R160). -/
def execLdDE (s : State) : Result := ldRegReg .d .e s

/-- LD_D_H (R160). -/
def execLdDH (s : State) : Result := ldRegReg .d .h s

/-- LD_D_L (R160). -/
def execLdDL (s : State) : Result := ldRegReg .d .l s

/-- LD_D__HL (R162). -/
def execLdDMemHl (s : State) : Result := ldRegMem .d s

/-- LD_D_A (R160). -/
def execLdDA (s : State) : Result := ldRegReg .d .a s

/-- LD_E_B (R160). -/
def execLdEB (s : State) : Result := ldRegReg .e .b s

/-- LD_E_C (R160). -/
def execLdEC (s : State) : Result := ldRegReg .e .c s

/-- LD_E_D (R160). -/
def execLdED (s : State) : Result := ldRegReg .e .d s

/-- LD_E_E (R160). -/
def execLdEE (s : State) : Result := ldRegReg .e .e s

/-- LD_E_H (R160). -/
def execLdEH (s : State) : Result := ldRegReg .e .h s

/-- LD_E_L (R160). -/
def execLdEL (s : State) : Result := ldRegReg .e .l s

/-- LD_E__HL (R162). -/
def execLdEMemHl (s : State) : Result := ldRegMem .e s

/-- LD_E_A (R160). -/
def execLdEA (s : State) : Result := ldRegReg .e .a s

/-- LD_H_B (R160). -/
def execLdHB (s : State) : Result := ldRegReg .h .b s

/-- LD_H_C (R160). -/
def execLdHC (s : State) : Result := ldRegReg .h .c s

/-- LD_H_D (R160). -/
def execLdHD (s : State) : Result := ldRegReg .h .d s

/-- LD_H_E (R160). -/
def execLdHE (s : State) : Result := ldRegReg .h .e s

/-- LD_H_H (R160). -/
def execLdHH (s : State) : Result := ldRegReg .h .h s

/-- LD_H_L (R160). -/
def execLdHL (s : State) : Result := ldRegReg .h .l s

/-- LD_H__HL (R162). -/
def execLdHMemHl (s : State) : Result := ldRegMem .h s

/-- LD_H_A (R160). -/
def execLdHA (s : State) : Result := ldRegReg .h .a s

/-- LD_L_B (R160). -/
def execLdLB (s : State) : Result := ldRegReg .l .b s

/-- LD_L_C (R160). -/
def execLdLC (s : State) : Result := ldRegReg .l .c s

/-- LD_L_D (R160). -/
def execLdLD (s : State) : Result := ldRegReg .l .d s

/-- LD_L_E (R160). -/
def execLdLE (s : State) : Result := ldRegReg .l .e s

/-- LD_L_H (R160). -/
def execLdLH (s : State) : Result := ldRegReg .l .h s

/-- LD_L_L (R160). -/
def execLdLL (s : State) : Result := ldRegReg .l .l s

/-- LD_L__HL (R162). -/
def execLdLMemHl (s : State) : Result := ldRegMem .l s

/-- LD_L_A (R160). -/
def execLdLA (s : State) : Result := ldRegReg .l .a s

/-- LD__HL__B (R163). -/
def execLdMemHlB (s : State) : Result := ldMemReg .b s

/-- LD__HL__C (R163). -/
def execLdMemHlC (s : State) : Result := ldMemReg .c s

/-- LD__HL__D (R163). -/
def execLdMemHlD (s : State) : Result := ldMemReg .d s

/-- LD__HL__E (R163). -/
def execLdMemHlE (s : State) : Result := ldMemReg .e s

/-- LD__HL__H (R163). -/
def execLdMemHlH (s : State) : Result := ldMemReg .h s

/-- LD__HL__L (R163). -/
def execLdMemHlL (s : State) : Result := ldMemReg .l s

/-- LD__HL__A (R163). -/
def execLdMemHlA (s : State) : Result := ldMemReg .a s

/-- LD_A_B (R160). -/
def execLdAB (s : State) : Result := ldRegReg .a .b s

/-- LD_A_C (R160). -/
def execLdAC (s : State) : Result := ldRegReg .a .c s

/-- LD_A_D (R160). -/
def execLdAD (s : State) : Result := ldRegReg .a .d s

/-- LD_A_E (R160). -/
def execLdAE (s : State) : Result := ldRegReg .a .e s

/-- LD_A_H (R160). -/
def execLdAH (s : State) : Result := ldRegReg .a .h s

/-- LD_A_L (R160). -/
def execLdAL (s : State) : Result := ldRegReg .a .l s

/-- LD_A__HL (R162). -/
def execLdAMemHl (s : State) : Result := ldRegMem .a s

/-- LD_A_A (R160). -/
def execLdAA (s : State) : Result := ldRegReg .a .a s

/-- POP_BC (R183). -/
def execPopBc (s : State) : Result := pop .bc s

/-- PUSH_BC (R182). -/
def execPushBc (s : State) : Result := push .bc s

/-- POP_DE (R183). -/
def execPopDe (s : State) : Result := pop .de s

/-- PUSH_DE (R182). -/
def execPushDe (s : State) : Result := push .de s

/-- LDH__a8__A (R174). -/
def execLdhMemA8A (n : Byte) (s : State) : Result := ldhImmA n s

/-- POP_HL (R183). -/
def execPopHl (s : State) : Result := pop .hl s

/-- LDH__C__A (R172). -/
def execLdhMemCA (s : State) : Result := ldhCA s

/-- PUSH_HL (R182). -/
def execPushHl (s : State) : Result := push .hl s

/-- LD__a16__A (R170). -/
def execLdMemA16A (nn : Word) (s : State) : Result := ldAbsA nn s

/-- LDH_A__a8 (R173). -/
def execLdhAMemA8 (n : Byte) (s : State) : Result := ldhAImm n s

/-- POP_AF (R183). -/
def execPopAf (s : State) : Result := pop .af s

/-- LDH_A__C (R171). -/
def execLdhAMemC (s : State) : Result := ldhAC s

/-- PUSH_AF (R182). -/
def execPushAf (s : State) : Result := push .af s

/-- LD_SP_HL (R181). -/
def execLdSpHl (s : State) : Result := ldSpHl s

/-- LD_A__a16 (R169). -/
def execLdAMemA16 (nn : Word) (s : State) : Result := ldAAbs nn s

end Sys2Proof.Machine
end

