-- ==== Sys2Proof/Machine/RotateShift.lean ====
section
/-! DEFINITION. The meanings of 43_rotate_shift_bit.md: rotates and shifts (R270 to R290). A meaning per rule, then one definition per instruction. -/

namespace Sys2Proof.Machine

/-- `RLCA`, `RRCA`, `RLA`, `RRA`: Z is 0 whatever the result (R270 to R273). -/
def rotA (k : AccRot) (s : State) : Result :=
  s.reading (.a :: rotReads (accRot k)) <|
    let x := rotated (accRot k) s.cpu.a s.flagC
    finish ((s.setReg .a x.r).setZNHC false false false x.c)

/-- The flags of a CB-page rotate or shift (R274). -/
def State.rotFlags (s : State) (x : Rotated) : State := s.setZNHC (isZero x.r) false false x.c

/-- `rot r8` (R275, R277, R279, R281, R283, R285, R287, R289). -/
def rotReg (k : Rot) (r : R8) (s : State) : Result :=
  s.reading (regName r :: rotReads k) <|
    let x := rotated k (s.reg r) s.flagC
    finish ((s.setReg r x.r).rotFlags x)

/-- `rot (HL)` (R276, R278, R280, R282, R284, R286, R288, R290). -/
def rotMem (k : Rot) (s : State) : Result :=
  s.modifyHl (rotReads k) fun o s => ((rotated k o s.flagC).r, s.rotFlags (rotated k o s.flagC))

/-! ## The instructions -/

/-- RLCA (R270). -/
def execRlca (s : State) : Result := rotA .rlca s

/-- RRCA (R271). -/
def execRrca (s : State) : Result := rotA .rrca s

/-- RLA (R272). -/
def execRla (s : State) : Result := rotA .rla s

/-- RRA (R273). -/
def execRra (s : State) : Result := rotA .rra s

/-- RLC_B (R275). -/
def execRlcB (s : State) : Result := rotReg .rlc .b s

/-- RLC_C (R275). -/
def execRlcC (s : State) : Result := rotReg .rlc .c s

/-- RLC_D (R275). -/
def execRlcD (s : State) : Result := rotReg .rlc .d s

/-- RLC_E (R275). -/
def execRlcE (s : State) : Result := rotReg .rlc .e s

/-- RLC_H (R275). -/
def execRlcH (s : State) : Result := rotReg .rlc .h s

/-- RLC_L (R275). -/
def execRlcL (s : State) : Result := rotReg .rlc .l s

/-- RLC__HL (R276). -/
def execRlcMemHl (s : State) : Result := rotMem .rlc s

/-- RLC_A (R275). -/
def execRlcA (s : State) : Result := rotReg .rlc .a s

/-- RRC_B (R277). -/
def execRrcB (s : State) : Result := rotReg .rrc .b s

/-- RRC_C (R277). -/
def execRrcC (s : State) : Result := rotReg .rrc .c s

/-- RRC_D (R277). -/
def execRrcD (s : State) : Result := rotReg .rrc .d s

/-- RRC_E (R277). -/
def execRrcE (s : State) : Result := rotReg .rrc .e s

/-- RRC_H (R277). -/
def execRrcH (s : State) : Result := rotReg .rrc .h s

/-- RRC_L (R277). -/
def execRrcL (s : State) : Result := rotReg .rrc .l s

/-- RRC__HL (R278). -/
def execRrcMemHl (s : State) : Result := rotMem .rrc s

/-- RRC_A (R277). -/
def execRrcA (s : State) : Result := rotReg .rrc .a s

/-- RL_B (R279). -/
def execRlB (s : State) : Result := rotReg .rl .b s

/-- RL_C (R279). -/
def execRlC (s : State) : Result := rotReg .rl .c s

/-- RL_D (R279). -/
def execRlD (s : State) : Result := rotReg .rl .d s

/-- RL_E (R279). -/
def execRlE (s : State) : Result := rotReg .rl .e s

/-- RL_H (R279). -/
def execRlH (s : State) : Result := rotReg .rl .h s

/-- RL_L (R279). -/
def execRlL (s : State) : Result := rotReg .rl .l s

/-- RL__HL (R280). -/
def execRlMemHl (s : State) : Result := rotMem .rl s

/-- RL_A (R279). -/
def execRlA (s : State) : Result := rotReg .rl .a s

/-- RR_B (R281). -/
def execRrB (s : State) : Result := rotReg .rr .b s

/-- RR_C (R281). -/
def execRrC (s : State) : Result := rotReg .rr .c s

/-- RR_D (R281). -/
def execRrD (s : State) : Result := rotReg .rr .d s

/-- RR_E (R281). -/
def execRrE (s : State) : Result := rotReg .rr .e s

/-- RR_H (R281). -/
def execRrH (s : State) : Result := rotReg .rr .h s

/-- RR_L (R281). -/
def execRrL (s : State) : Result := rotReg .rr .l s

/-- RR__HL (R282). -/
def execRrMemHl (s : State) : Result := rotMem .rr s

/-- RR_A (R281). -/
def execRrA (s : State) : Result := rotReg .rr .a s

/-- SLA_B (R283). -/
def execSlaB (s : State) : Result := rotReg .sla .b s

/-- SLA_C (R283). -/
def execSlaC (s : State) : Result := rotReg .sla .c s

/-- SLA_D (R283). -/
def execSlaD (s : State) : Result := rotReg .sla .d s

/-- SLA_E (R283). -/
def execSlaE (s : State) : Result := rotReg .sla .e s

/-- SLA_H (R283). -/
def execSlaH (s : State) : Result := rotReg .sla .h s

/-- SLA_L (R283). -/
def execSlaL (s : State) : Result := rotReg .sla .l s

/-- SLA__HL (R284). -/
def execSlaMemHl (s : State) : Result := rotMem .sla s

/-- SLA_A (R283). -/
def execSlaA (s : State) : Result := rotReg .sla .a s

/-- SRA_B (R285). -/
def execSraB (s : State) : Result := rotReg .sra .b s

/-- SRA_C (R285). -/
def execSraC (s : State) : Result := rotReg .sra .c s

/-- SRA_D (R285). -/
def execSraD (s : State) : Result := rotReg .sra .d s

/-- SRA_E (R285). -/
def execSraE (s : State) : Result := rotReg .sra .e s

/-- SRA_H (R285). -/
def execSraH (s : State) : Result := rotReg .sra .h s

/-- SRA_L (R285). -/
def execSraL (s : State) : Result := rotReg .sra .l s

/-- SRA__HL (R286). -/
def execSraMemHl (s : State) : Result := rotMem .sra s

/-- SRA_A (R285). -/
def execSraA (s : State) : Result := rotReg .sra .a s

/-- SWAP_B (R287). -/
def execSwapB (s : State) : Result := rotReg .swap .b s

/-- SWAP_C (R287). -/
def execSwapC (s : State) : Result := rotReg .swap .c s

/-- SWAP_D (R287). -/
def execSwapD (s : State) : Result := rotReg .swap .d s

/-- SWAP_E (R287). -/
def execSwapE (s : State) : Result := rotReg .swap .e s

/-- SWAP_H (R287). -/
def execSwapH (s : State) : Result := rotReg .swap .h s

/-- SWAP_L (R287). -/
def execSwapL (s : State) : Result := rotReg .swap .l s

/-- SWAP__HL (R288). -/
def execSwapMemHl (s : State) : Result := rotMem .swap s

/-- SWAP_A (R287). -/
def execSwapA (s : State) : Result := rotReg .swap .a s

/-- SRL_B (R289). -/
def execSrlB (s : State) : Result := rotReg .srl .b s

/-- SRL_C (R289). -/
def execSrlC (s : State) : Result := rotReg .srl .c s

/-- SRL_D (R289). -/
def execSrlD (s : State) : Result := rotReg .srl .d s

/-- SRL_E (R289). -/
def execSrlE (s : State) : Result := rotReg .srl .e s

/-- SRL_H (R289). -/
def execSrlH (s : State) : Result := rotReg .srl .h s

/-- SRL_L (R289). -/
def execSrlL (s : State) : Result := rotReg .srl .l s

/-- SRL__HL (R290). -/
def execSrlMemHl (s : State) : Result := rotMem .srl s

/-- SRL_A (R289). -/
def execSrlA (s : State) : Result := rotReg .srl .a s

end Sys2Proof.Machine
end

