-- ==== Sys2Proof/Machine/System.lean ====
section
/-! DEFINITION. The meanings of 45_system.md: system and control instructions (R340 to R345) and the 0xCB page (30_encoding.md R139). A meaning per rule, then one definition per instruction. -/

namespace Sys2Proof.Machine

/-- `NOP` (R340). -/
def nop (s : State) : Result := finish s

/-- The CGB speed switch of STOP (R341): the speed toggles, the switch is no longer armed, the counter is reset (60_exceptions.md R382), and the CPU halts for
`SPEED_SWITCH_T` T-cycles. The counter falls and the tick are those of the new speed (notes/assumptions/15.md). -/
def State.switchSpeed (s : State) : State :=
  (({ s with bus := { s.bus with doubleSpeed := !s.bus.doubleSpeed, keyArmed := false } } : State).resetDiv).setRun
    (switchingMode s.cfg.speedSwitchT)

/-- `STOP`; its second byte is ignored (R341). -/
def stop (_n : Byte) (s : State) : Result :=
  if s.cfg.cgbMode && s.bus.keyArmed then finish s.switchSpeed
  else s.refuses (.stopMode s.cpu.opcodeAddr)

/-- `HALT` (R342). -/
def halt (s : State) : Result :=
  if s.cpu.ime = .pending then
    finish (s.withCpu { s.cpu with ime := .enabled, pc := s.cpu.pc - 1 })
  else if s.irq.pending then
    if s.cfg.haltBug ∧ s.cpu.ime = .disabled then finish (s.withCpu { s.cpu with haltBug := true })
    else finish s
  else finish (s.setRun .halted)

/-- The state with another ime. -/
def State.setIme (s : State) (m : Ime) : State := s.withCpu { s.cpu with ime := m }

/-- `DI` (R343). -/
def di (s : State) : Result := finish (s.setIme .disabled)

/-- `EI` (R344). -/
def ei (s : State) : Result := finish (if s.cpu.ime = .disabled then s.setIme .pending else s)

/-- The eleven illegal opcodes (R345, 30_encoding.md R140). -/
def illegal (op : Byte) (s : State) : Result := s.faults (.illegalOpcode op s.cpu.opcodeAddr)

/-- The `r8` register of a field z, none for `(HL)` (30_encoding.md R133). -/
def fieldReg (z : BitVec 3) : Option R8 :=
  match z.toNat with
  | 0 => some .b | 1 => some .c | 2 => some .d | 3 => some .e | 4 => some .h | 5 => some .l | 6 => none | _ => some .a

/-- The `rot` operation of a field y (30_encoding.md R133). -/
def fieldRot (y : BitVec 3) : Rot :=
  match y.toNat with
  | 0 => .rlc | 1 => .rrc | 2 => .rl | 3 => .rr | 4 => .sla | 5 => .sra | 6 => .swap | _ => .srl

/-- The instruction of the CB page with fields x, y, z (30_encoding.md R139). -/
def cbPage (op : Byte) (s : State) : Result :=
  let y := op.extractLsb' 3 3
  match (op.extractLsb' 6 2).toNat, fieldReg (op.extractLsb' 0 3) with
  | 0, some r => rotReg (fieldRot y) r s
  | 0, none => rotMem (fieldRot y) s
  | 1, some r => bitReg y r s
  | 1, none => bitMem y s
  | 2, some r => resReg y r s
  | 2, none => resMem y s
  | _, some r => setReg y r s
  | _, none => setMem y s

/-- The byte 0xCB alone: it makes the next byte an opcode of the CB page (30_encoding.md R139). -/
def prefixed (s : State) : Result := s.fetchNext fun op s => cbPage op s

/-! ## The instructions -/

/-- NOP (R340). -/
def execNop (s : State) : Result := nop s

/-- STOP (R341). -/
def execStop (n : Byte) (s : State) : Result := stop n s

/-- HALT (R342). -/
def execHalt (s : State) : Result := halt s

/-- ILLEGAL_D3 (R345). -/
def execIllegalD3 (s : State) : Result := illegal 0xD3 s

/-- ILLEGAL_DB (R345). -/
def execIllegalDB (s : State) : Result := illegal 0xDB s

/-- ILLEGAL_DD (R345). -/
def execIllegalDD (s : State) : Result := illegal 0xDD s

/-- ILLEGAL_E3 (R345). -/
def execIllegalE3 (s : State) : Result := illegal 0xE3 s

/-- ILLEGAL_E4 (R345). -/
def execIllegalE4 (s : State) : Result := illegal 0xE4 s

/-- ILLEGAL_EB (R345). -/
def execIllegalEB (s : State) : Result := illegal 0xEB s

/-- ILLEGAL_EC (R345). -/
def execIllegalEC (s : State) : Result := illegal 0xEC s

/-- ILLEGAL_ED (R345). -/
def execIllegalED (s : State) : Result := illegal 0xED s

/-- DI (R343). -/
def execDi (s : State) : Result := di s

/-- ILLEGAL_F4 (R345). -/
def execIllegalF4 (s : State) : Result := illegal 0xF4 s

/-- EI (R344). -/
def execEi (s : State) : Result := ei s

/-- ILLEGAL_FC (R345). -/
def execIllegalFC (s : State) : Result := illegal 0xFC s

/-- ILLEGAL_FD (R345). -/
def execIllegalFD (s : State) : Result := illegal 0xFD s

/-- PREFIX_CB (R139). -/
def execPrefixCb (s : State) : Result := prefixed s

end Sys2Proof.Machine
end

