-- ==== Sys2Proof/Machine/Init.lean ====
section
/-! DEFINITION. Construction from images (20_memory.md R85, R86, R90, R93; 70_reset_and_hazards.md R560, R561), and
an instruction placed where the next step fetches (notes/assumptions/8.md). -/

namespace Sys2Proof.Machine

/-! ## Images -/

/-- The cells of an image at a key, in canonical form: a byte 0xFF is what the keys there read as unlisted. -/
def imageCells (base : Nat) : List Byte → Memory
  | [] => []
  | b :: rest => if b = unlisted base then imageCells (base + 1) rest else (base, b) :: imageCells (base + 1) rest

/-- A header byte; 0xFF past the image's end (R87). -/
def headerByte (rom : List Byte) (off : Nat) : Byte := rom.getD off 0xFF

/-! ## The cartridge (R85, R86) -/

/-- The header metadata of R85. A text runs to the next field R85 names (notes/assumptions/28.md). -/
structure Header where
  /-- 0x0134 to 0x013E -/
  title        : List Byte
  /-- 0x013F to 0x0142 -/
  manufacturer : List Byte
  /-- 0x0143 -/
  cgbFlag      : Byte
  /-- 0x0144 and 0x0145 -/
  licensee     : List Byte
  /-- 0x0146 -/
  sgbFlag      : Byte
  /-- 0x0147 -/
  typeByte     : Byte
  /-- 0x0148 -/
  romSize      : Byte
  /-- 0x0149 -/
  ramSize      : Byte
  /-- 0x014B -/
  oldLicensee  : Byte
  /-- 0x014D -/
  checksum     : Byte
  deriving DecidableEq, Repr

/-- The header, from the ROM's bytes by offset. -/
def headerOf (byte : Nat → Byte) : Header where
  title := (List.range' 0x134 11).map byte
  manufacturer := (List.range' 0x13F 4).map byte
  cgbFlag := byte 0x143
  licensee := [byte 0x144, byte 0x145]
  sgbFlag := byte 0x146
  typeByte := byte 0x147
  romSize := byte 0x148
  ramSize := byte 0x149
  oldLicensee := byte 0x14B
  checksum := byte 0x14D

/-- The header of an image. -/
def imageHeader (rom : List Byte) : Header := headerOf (headerByte rom)

/-- The header of the cartridge in the slot, read from its ROM (R85). -/
def State.cartHeader (s : State) : Option Header :=
  s.cfg.cart.map fun _ => headerOf fun off => s.mem.read (romBase + off)

/-- The type bytes of the controllers the source recognises and the spec does not define (R93): MMM01, MBC3, MBC6,
MBC7, camera, TAMA5, HuC3, HuC1. PRESUMED: the spec gives no byte for them (notes/assumptions/18.md). -/
def undefinedControllers : List Byte :=
  [0x0B, 0x0C, 0x0D, 0x0F, 0x10, 0x11, 0x12, 0x13, 0x20, 0x22, 0xFC, 0xFD, 0xFE, 0xFF]

/-- The type bytes that name RAM, MBC2's among them (R86). -/
def ramTypes : List Byte := [0x02, 0x03, 0x05, 0x06, 0x08, 0x09, 0x1A, 0x1B, 0x1D, 0x1E]

/-- The type bytes that name a battery (R86). -/
def batteryTypes : List Byte := [0x03, 0x06, 0x09, 0x1B, 0x1E]

/-- 16 KiB banks for a ROM size code (R85). An unlisted code takes the image's own size (DESIGN CHOICE, notes/assumptions/10.md). -/
def romBanksOf (rom : List Byte) (code : Byte) : Nat :=
  if code.toNat ≤ 8 then 2 <<< code.toNat else max 2 ((rom.length + 0x3FFF) / 0x4000)

/-- RAM bytes for a RAM size code (R86). An unlisted code gives none (DESIGN CHOICE, notes/assumptions/10.md). -/
def ramSizeOf (code : Byte) : Nat :=
  match code.toNat with
  | 1 => 0x800
  | 2 => 0x2000
  | 3 => 0x8000
  | 4 => 0x20000
  | 5 => 0x10000
  | _ => 0

/-- The MBC1M test (R90): a 1 MiB ROM whose 48 bytes at 0x40104 equal those at 0x0104. -/
def isMulticart (rom : List Byte) (banks : Nat) : Bool :=
  banks == 64 && (rom.drop 0x40104).take 48 == (rom.drop 0x0104).take 48

/-- The controller of a type byte the spec defines or the source does not recognise (R85, R90, R93). -/
def controllerOf (rom : List Byte) (banks : Nat) (t : Byte) : Controller :=
  if t = 0x01 ∨ t = 0x02 ∨ t = 0x03 then (if isMulticart rom banks then .mbc1m else .mbc1)
  else if t = 0x05 ∨ t = 0x06 then .mbc2
  else if 0x19 ≤ t ∧ t ≤ 0x1E then .mbc5
  else .plain

/-- The cartridge of an image. -/
def cartOf (rom : List Byte) : Cart :=
  let h := imageHeader rom
  let t := h.typeByte
  let banks := romBanksOf rom h.romSize
  let ctrl := controllerOf rom banks t
  { controller := ctrl
    romBanks := banks
    ramSize := if ctrl = .mbc2 then 512 else ramSizeOf h.ramSize
    hasRam := ramTypes.contains t
    hasBattery := batteryTypes.contains t }

/-! ## The machine (R560, R561) -/

/-- Header byte 0x0143 has bit 7 set; false with no cartridge (R2, R560; notes/assumptions/1.md). -/
def cgbFlag : Option (List Byte) → Bool
  | some rom => (imageHeader rom).cgbFlag.getLsbD 7
  | none => false

/-- The device: the one given, else by the header (R560). -/
def deviceOf (given : Option Device) (rom : Option (List Byte)) : Device :=
  given.getD (if cgbFlag rom then .cgb else .dmg)

/-- The header-checksum flag `hc` (10_state.md R60). -/
def checksumFlag (base : Params) : Option (List Byte) → Bool
  | some rom => (imageHeader rom).checksum != 0
  | none => base.noCartChecksum != 0

/-- The parameters of a machine built from images; the other parameters are `base`'s. -/
def paramsOf (base : Params) (given : Option Device) (rom boot : Option (List Byte)) : Params :=
  { base with
    device := deviceOf given rom
    cgbMode := deviceOf given rom = .cgb && cgbFlag rom
    cart := rom.map cartOf
    bootRom := boot.isSome }

/-- Memory with the images alone: 256 bytes of boot ROM, and the ROM (10_state.md R64). -/
def imageMem (rom boot : Option (List Byte)) : Memory :=
  imageCells bootBase ((boot.getD []).take 256) ++ imageCells romBase (rom.getD [])

/-- Construction and reset: the state, or the refusal of a cartridge whose controller the spec does not define (R93). -/
def construct (base : Params) (given : Option Device) (rom boot : Option (List Byte)) : Except Refusal State :=
  let t := (rom.map (fun r => (imageHeader r).typeByte)).getD 0
  if undefinedControllers.contains t then .error (.unsupportedCartridge t)
  else
    let cfg := paramsOf base given rom boot
    .ok (if boot.isSome then State.powerOn cfg (imageMem rom boot)
      else State.postBoot cfg (checksumFlag base rom) (imageMem rom boot))

/-! ## Placing an instruction -/

/-- A 32 KiB cartridge without a controller: the test-program convention (70_reset_and_hazards.md R601). -/
def plainCart : Cart := { controller := .plain, romBanks := 2, ramSize := 0, hasRam := false, hasBattery := false }

/-- A byte put into the cell an address selects. -/
def State.placeByte (s : State) (addr : Word) (v : Byte) : State :=
  match s.key addr with
  | some k => { s with mem := s.mem.write k v }
  | none => s

/-- Bytes put at rising addresses. -/
def State.placeBytes (s : State) (addr : Word) : List Byte → State
  | [] => s
  | b :: rest => State.placeBytes (s.placeByte addr b) (addr + 1) rest

/-- The machine made ready to fetch at pc: running, taking no interrupt, no HALT bug pending, no OAM DMA, and a
cartridge in the slot if the slot is empty. -/
def State.readyToFetch (s : State) : State :=
  { s with
    cfg := { s.cfg with cart := some (s.cfg.cart.getD plainCart) }
    cpu := { s.cpu with run := .running, haltBug := false, ime := if s.takesInterrupt then .disabled else s.cpu.ime }
    dma := .disabled }

/-- An instruction's bytes placed at pc. -/
def State.placed (s : State) (bytes : List Byte) : State := s.readyToFetch.placeBytes s.cpu.pc bytes

end Sys2Proof.Machine
end

