-- ==== Sys2Proof/Machine/Step.lean ====
section
/-! DEFINITION. One CPU step (60_exceptions.md R365), and an instruction placed where the next step fetches. -/

namespace Sys2Proof.Machine

/-- One CPU step: of a CPU that is Faulted or Refused, the same outcome again (10_state.md R28); else an idle M-cycle (R368, 45_system.md R341), an interrupt dispatch (R366), or one instruction,
fetched, executed, with IME promoted at its end (30_encoding.md R131, R364). -/
def step (s : State) : Host.Outcome State Fault Refusal :=
  match s.cpu.run with
  | .halted => .next s.idleHalted
  | .switching n => .next (s.idleSwitching n)
  | .faulted c => s.faults c
  | .refused c => s.refuses c
  | .running =>
    if s.takesInterrupt then s.dispatchInterrupt
    else s.fetchInstr (fun i s1 => promote s.cpu.ime (exec i s1))

/-- `s` with an instruction placed where the next step fetches it (`State.placed` says how). -/
def State.withFetchWord (s : State) (nbits w : Nat) : State := s.placed (tableWordBytes nbits w)

end Sys2Proof.Machine
end

