-- ==== Sys2Proof/Machine/Console.lean ====
section
/-! DEFINITION. What the host can do to the machine, between CPU steps (70_reset_and_hazards.md R600). -/

namespace Sys2Proof.Machine

/-- `set_key_pressed(button, pressed)`: the pressed set changes, and the joypad compares its lines (60_exceptions.md R393, R394). -/
def State.setKey (s : State) (k : Button) (pressed : Bool) : State :=
  let r := joypadSample ({ s.joypad with pressed := s.joypad.pressed.set k pressed }, s.irq)
  { s with joypad := r.1, irq := r.2 }

/-- How `process_frame` ends: with the normal-speed T-cycles elapsed and the state, that of the M-cycle it stopped in after a fault or a refusal; `outOfFuel` is the model's own bound on the steps run. -/
inductive FrameEnd where
  | done (cycles : Nat) (s : State)
  | fault (f : Fault) (cycles : Nat) (s : State)
  | refused (r : Refusal) (cycles : Nat) (s : State)
  | outOfFuel (s : State)
  deriving DecidableEq, Repr

/-- The frame that began in `start` is over in `s`: the PPU entered VBlank, or the LCD is off and a frame's time has passed. -/
def frameOver (start s : State) : Bool :=
  s.ppu.frames != start.ppu.frames || (!s.ppu.lcdOn && start.elapsed + 70224 ≤ s.elapsed)

/-- At most `n` CPU steps of the frame that began in `start`. -/
def processSteps (start : State) : Nat → State → FrameEnd
  | 0, s => .outOfFuel s
  | n + 1, s =>
    match step s with
    | .next s' => if frameOver start s' then .done (s'.elapsed - start.elapsed) s' else processSteps start n s'
    | .fault f => .fault f (f.left.elapsed - start.elapsed) f.left
    | .refused r => .refused r ((r.left.getD s).elapsed - start.elapsed) (r.left.getD s)

/-- `process_frame()`, with a bound on its steps. -/
def State.processFrame (s : State) (fuel : Nat) : FrameEnd := processSteps s fuel s

/-- A pixel's host colour (61_video_audio.md R475, R476). -/
def pixelRgb (d : Device) : Pixel → Rgb
  | .shade layer v => Config.dmgShade d layer v
  | .colour v => Config.cgbColour v

/-- The framebuffer's colour at a column of a line (R473). -/
def State.screen (s : State) (line x : Nat) : Rgb := pixelRgb s.cfg.device (s.ppu.framePixel line x)

/-- The audio samples made so far, the oldest first (R491). -/
def State.audio (s : State) : List (Rat × Rat) := s.apu.samples.reverse

/-- The bytes sent on the serial port so far, the oldest first (60_exceptions.md R390). -/
def State.serialOut (s : State) : List Byte := s.serial.sent.reverse

end Sys2Proof.Machine
end

