-- ==== Sys2Proof/Safety.lean ====
section
/-! DEFINITION. What claims say of a state, of a run and of an instruction's frame, in the terms the obligations use. -/

namespace Sys2Proof

/-- A cartridge's RAM is at most the 128 KiB of 20_memory.md R86, so its cells stay below the images. -/
def Params.ramFits (p : Params) : Prop := ∀ c, p.cart = some c → c.ramSize ≤ 0x20000

namespace Machine

/-! ## Outcomes -/

/-- If the outcome is a next state, it satisfies `P`. -/
def IfNext (r : Result) (P : State → Prop) : Prop := ∀ s, r = .next s → P s

/-- `n` device ticks: what `n` M-cycles of time do (70_reset_and_hazards.md R581). -/
def State.ticks (s : State) : Nat → State
  | 0 => s
  | n + 1 => State.ticks s.tick n

/-- Every CPU register has been written: so after every reset without a boot ROM (10_state.md R26). -/
def State.allWritten (s : State) : Prop := s.cpu.unwritten = []

/-! ## Accesses in later M-cycles, as seen from where an instruction starts -/

/-- A read in the next M-cycle is not refused. -/
def State.readGranted (s : State) (a : Word) : Prop := (s.ticks 1).readRefusal a = none

/-- A write in the next M-cycle is not refused. -/
def State.writeGranted (s : State) (a : Word) (v : Byte) : Prop := (s.ticks 1).writeRefusal a v = none

/-- The byte a read in the next M-cycle gives. -/
def State.nextByte (s : State) (a : Word) : Byte := (s.ticks 1).readByte a

/-- The state after a write in the next M-cycle. -/
def State.nextWrite (s : State) (a : Word) (v : Byte) : State := (s.ticks 1).writeByte a v

/-- The state after an internal M-cycle and the two stack writes of a push of `v` (40_load.md R182). -/
def State.pushed (s : State) (v : Word) : State :=
  ((s.ticks 1).nextWrite (s.cpu.sp - 1) (hiByte v)).nextWrite (s.cpu.sp - 2) (loByte v)

/-- Neither write of that push is refused. -/
def State.pushGranted (s : State) (v : Word) : Prop :=
  (s.ticks 1).writeGranted (s.cpu.sp - 1) (hiByte v) ∧
  ((s.ticks 1).nextWrite (s.cpu.sp - 1) (hiByte v)).writeGranted (s.cpu.sp - 2) (loByte v)

/-- The value a pop reads in the next two M-cycles (40_load.md R183). -/
def State.popValue (s : State) : Word := mkWord ((s.ticks 1).nextByte (s.cpu.sp + 1)) (s.nextByte s.cpu.sp)

/-- Neither read of that pop is refused. -/
def State.popGranted (s : State) : Prop := s.readGranted s.cpu.sp ∧ (s.ticks 1).readGranted (s.cpu.sp + 1)

/-- pc after the opcode fetch (30_encoding.md R131). -/
def State.pc1 (s : State) : Word := s.opcodeFetched.cpu.pc

/-- The three bytes fetches at pc would give, one M-cycle after another. -/
def State.fetchedBytes (s : State) : List Byte :=
  [s.readByte s.cpu.pc, s.nextByte s.pc1, (s.ticks 1).nextByte (s.pc1 + 1)]

/-- The first `n` fetches are not refused. -/
def State.fetchGranted (s : State) (n : Nat) : Prop :=
  s.readRefusal s.cpu.pc = none ∧ (2 ≤ n → s.readGranted s.pc1) ∧ (3 ≤ n → (s.ticks 1).readGranted (s.pc1 + 1))

/-- The state where an instruction of `n` bytes starts: its bytes fetched, pc after them. -/
def State.afterFetch (s : State) (n : Nat) : State :=
  ((s.ticks (n - 1)).withCpu { s.opcodeFetched.cpu with pc := s.pc1 + BitVec.ofNat 16 (n - 1) })

/-- The conditions (44_control.md R310). -/
def State.condHolds (s : State) : Cond → Prop
  | .nz => s.flagZ = false
  | .z => s.flagZ = true
  | .nc => s.flagC = false
  | .c => s.flagC = true

/-- The two-digit BCD byte of a number below 100. -/
def bcd (n : Nat) : Byte := BitVec.ofNat 8 (16 * (n / 10) + n % 10)

/-- The timer's signal falls at one of the four counts of a device tick (60_exceptions.md R381, R386). -/
def Timer.fallsInTick (t : Timer) : Bool :=
  (List.range 4).any fun j => timerSignal t.tac (t.div + BitVec.ofNat 16 j) && !timerSignal t.tac (t.div + BitVec.ofNat 16 (j + 1))

/-! ## Invariants -/

/-- The low four bits of F are 0 (10_state.md R23). -/
def State.flagsWf (s : State) : Prop := s.cpu.f &&& 0x0F = 0

/-- The opcodes that define no instruction (30_encoding.md R140). -/
def illegalOpcodes : List Byte := [0xD3, 0xDB, 0xDD, 0xE3, 0xE4, 0xEB, 0xEC, 0xED, 0xF4, 0xFC, 0xFD]

/-- A Faulted CPU fetched an illegal opcode (60_exceptions.md R360; R26's fault needs an unwritten register). -/
def State.faultWf (s : State) : Prop :=
  ∀ c, s.cpu.run = .faulted c → ∃ op addr, c = .illegalOpcode op addr ∧ op ∈ illegalOpcodes

/-- The PPU mode of a position (61_video_audio.md R461). -/
def modeAt (cfg : Params) (line clock : Nat) : PpuMode :=
  if 144 ≤ line then .vBlank
  else if clock < 80 then .oamScan
  else if clock < 80 + 160 * cfg.mode3TPerPixel then .drawLine
  else .hBlank

/-- With the LCD on, the position is in range and the mode is that of the position; with it off, all three are as R472 leaves them. -/
def Ppu.positionWf (cfg : Params) (p : Ppu) : Prop :=
  if p.lcdOn then p.line < 154 ∧ p.clock < 456 ∧ p.mode = modeAt cfg p.line p.clock
  else p.line = 0 ∧ p.clock = 0 ∧ p.mode = .hBlank

/-- A channel is on only if its DAC is (61_video_audio.md R488). -/
def Apu.dacWf (a : Apu) : Prop :=
  (a.on1 → a.dac1) ∧ (a.on2 → a.dac2) ∧ (a.on3 → a.dac3) ∧ (a.on4 → a.dac4)

/-- A transfer in progress has copied less than all of OAM, from a source the spec allows (20_memory.md R95, R96). -/
def State.dmaWf (s : State) : Prop :=
  ∀ start next rem, s.dma = .transferring start next rem → next < 160 ∧ start.toNat ≤ 0xDF00

/-- MBC1's 5-bit and MBC2's 4-bit bank registers are never 0 (20_memory.md R89, R91). -/
def Bus.banksWf (b : Bus) : Prop := b.mbc1.bank1 ≠ 0 ∧ b.mbc2.romBank ≠ 0

/-- What no step changes: the parameters, and every byte of the boot ROM and the cartridge's ROM (20_memory.md R85). -/
structure SameHardware (s t : State) : Prop where
  params : t.cfg = s.cfg
  images : ∀ k, bootBase ≤ k → t.mem.read k = s.mem.read k

/-- A key of OAM. -/
def isOamKey (k : Nat) : Prop := oamBase ≤ k ∧ k < oamBase + 160

end Machine

open Machine

/-! ## Frames: what an instruction may change -/

/-- The `r8` registers an instruction writes. -/
def Form.dests : Form → List R8
  | .ldRegReg dst _ | .ldRegImm dst _ | .ldRegMem dst | .incReg dst | .decReg dst => [dst]
  | .rotReg _ r | .resReg _ r | .setReg _ r => [r]
  | .ldAPtr _ | .ldAAbs _ | .ldhAC | .ldhAImm _ => [.a]
  | .ldAHlInc | .ldAHlDec => [.a, .h, .l]
  | .ldHlIncA | .ldHlDecA | .addHl _ | .ldHlSp _ => [.h, .l]
  | .ldPairImm .bc _ | .incPair .bc | .decPair .bc => [.b, .c]
  | .ldPairImm .de _ | .incPair .de | .decPair .de => [.d, .e]
  | .ldPairImm .hl _ | .incPair .hl | .decPair .hl => [.h, .l]
  | .pop .bc => [.b, .c]
  | .pop .de => [.d, .e]
  | .pop .hl => [.h, .l]
  | .pop .af => [.a]
  | .aluReg .cp _ | .aluMem .cp | .aluImm .cp _ => []
  | .aluReg _ _ | .aluMem _ | .aluImm _ _ | .daa | .cpl | .rotA _ => [.a]
  | _ => []

/-- The instructions that write SP (10_state.md R22). -/
def Form.writesSp : Form → Bool
  | .ldPairImm .sp _ | .incPair .sp | .decPair .sp | .ldSpHl | .addSp _ | .push _ | .pop _ | .call _ | .callCc _ _ | .rst _
  | .ret | .retCc _ | .reti => true
  | _ => false

/-- The bits of F an instruction writes (10_state.md R24). -/
def Form.flagMask : Form → Byte
  | .aluReg _ _ | .aluMem _ | .aluImm _ _ | .rotA _ | .rotReg _ _ | .rotMem _ | .addSp _ | .ldHlSp _ | .pop .af => 0xF0
  | .incReg _ | .incMem | .decReg _ | .decMem | .bitReg _ _ | .bitMem _ => 0xE0
  | .daa => 0xB0
  | .cpl => 0x60
  | .scf | .ccf | .addHl _ => 0x70
  | _ => 0x00

/-- The addresses an instruction stores to, in order, computed where the instruction starts. -/
def Form.stores (f : Form) (s : State) : List Word :=
  match f with
  | .ldMemReg _ | .ldMemImm _ | .ldHlIncA | .ldHlDecA | .incMem | .decMem | .rotMem _ | .resMem _ | .setMem _ => [s.hl]
  | .ldPtrA p => [s.ptr p]
  | .ldAbsA nn => [nn]
  | .ldhCA => [s.highC]
  | .ldhImmA n => [highPage n]
  | .ldAbsSp nn => [nn, nn + 1]
  | .push _ | .call _ | .rst _ => [s.cpu.sp - 1, s.cpu.sp - 2]
  | .callCc cc _ => if s.cond cc then [s.cpu.sp - 1, s.cpu.sp - 2] else []
  | _ => []

/-- The instructions that write the interrupt master enable (10_state.md R27). -/
def Form.writesIme : Form → Bool
  | .di | .ei | .reti | .halt => true
  | _ => false

/-- The instructions that write the run mode (10_state.md R28, 45_system.md R341). -/
def Form.writesRun : Form → Bool
  | .halt | .stop _ => true
  | _ => false

end Sys2Proof
end

