-- ==== Sys2Proof/Certificates/Slice0/Obligations.lean ====
section
/-! DEFINITION. The statements for the provers. Each docstring names the rules of spec/ it formalises.
A statement about an instruction rule is one about every instruction `i` whose form is that rule's; `i.form` gives it.
Every next state is written as: the state the device ticks and the granted writes give, with the CPU's registers stated. -/

open Sys2Proof Sys2Proof.Machine

/-! ## Encoding -/

/-- Decoding an encoded instruction gives it back, whatever follows it (30_encoding.md R130, R132 to R139, R141). -/
def Obligations.DecodeOfEncode : Prop :=
  ∀ (i : Instr) (rest : List Byte), i.wellFormed = true → decode (encode i ++ rest) = .ok (i, rest)

/-- Encoding what was decoded gives the bytes back, 1 to 3 of them: no two byte strings are one instruction, and no bit is dropped; and every
three bytes begin with an instruction (30_encoding.md R130, R142, R143). -/
def Obligations.EncodeOfDecode : Prop :=
  (∀ (bytes rest : List Byte) (i : Instr), decode bytes = .ok (i, rest) →
    bytes = encode i ++ rest ∧ i.wellFormed = true ∧ 1 ≤ (encode i).length ∧ (encode i).length ≤ 3) ∧
  (∀ b0 b1 b2 : Byte, ∃ i rest, decode [b0, b1, b2] = .ok (i, rest))

/-- A few words written out from the encodings of the 4x files. -/
def Obligations.SpecWordsDecode : Prop :=
  decode [0x78] = .ok (.ldAB, []) ∧ decode [0x11, 0xEF, 0xBE] = .ok (.ldDeN16 0xBEEF, []) ∧
  decode [0x93] = .ok (.subAE, []) ∧ decode [0x29] = .ok (.addHlHl, []) ∧ decode [0xE8, 0x02] = .ok (.addSpE8 0x02, []) ∧
  decode [0x1F] = .ok (.rra, []) ∧ decode [0xCB, 0x7F] = .ok (.bit7A, []) ∧ decode [0xCB, 0x86] = .ok (.res0MemHl, []) ∧
  decode [0xCB, 0x1E] = .ok (.rrMemHl, []) ∧ decode [0xDC, 0x34, 0x12] = .ok (.callCA16 0x1234, []) ∧
  decode [0x20, 0xFB] = .ok (.jrNzE8 0xFB, []) ∧ decode [0xEF] = .ok (.rst28, []) ∧ decode [0x76] = .ok (.halt, []) ∧
  decode [0xD3] = .ok (.illegalD3, []) ∧ decode [0x10, 0x00] = .ok (.stop 0x00, [])

/-! ## Steps -/

/-- A running CPU that takes no interrupt runs the instruction its bytes decode to: `step` is `exec` of it where its bytes have been
fetched, with ime promoted at its end (30_encoding.md R131, 60_exceptions.md R364, R365). -/
def Obligations.StepRunsDecoded : Prop :=
  ∀ (s : State) (i : Instr) (rest : List Byte), s.cpu.run = .running → s.takesInterrupt = false →
    decode s.fetchedBytes = .ok (i, rest) → s.fetchGranted (encode i).length →
    step s = promote s.cpu.ime (exec i (s.afterFetch (encode i).length))

/-- An interrupt is dispatched in five M-cycles: pc is pushed, the source's request is cleared, ime is Disabled, pc is the source's vector
(60_exceptions.md R365, R366, R369). With SP = 0x0000 the high byte would go to IE, and the dispatch is refused in its third M-cycle (R366),
with SP after its decrement (the model's reading: notes/assumptions/23.md). -/
def Obligations.DispatchTaken : Prop :=
  ∀ s : State, s.allWritten → s.cpu.run = .running → s.cpu.ime = .enabled → s.irq.pending = true →
    (s.cpu.sp ≠ 0x0000 → s.pushGranted s.cpu.pc →
      step s = .next
        ((({ s.pushed s.cpu.pc with irq := (s.pushed s.cpu.pc).irq.acknowledge s.irq.lowest } : State).ticks 2).withCpu { s.cpu with sp := s.cpu.sp - 2, pc := 0x0040 + 8 * BitVec.ofNat 16 s.irq.lowest.number, ime := .disabled })) ∧
    (s.cpu.sp = 0x0000 →
      step s = .refused (.dispatchIePush 0xFFFF ((s.ticks 2).withCpu { s.cpu with sp := 0xFFFF, run := .refused (.dispatchIePush 0xFFFF) })))

/-- The source taken is the pending one with the lowest bit number (60_exceptions.md R363, R367). -/
def Obligations.LowestSourceWins : Prop :=
  ∀ q : Irq, q.pending = true →
    q.ie.getLsbD q.lowest.number = true ∧ q.iflag.getLsbD q.lowest.number = true ∧
    ∀ n, n < q.lowest.number → ¬ (q.ie.getLsbD n = true ∧ q.iflag.getLsbD n = true)

/-- A halted CPU's step is one idle M-cycle; after its tick a pending interrupt wakes the CPU, whatever ime is (60_exceptions.md R368).
A speed-switching CPU's step is one idle M-cycle too, and interrupts are not looked at (45_system.md R341);
it counts 4 CPU T-cycles of the switch's time (the model's reading: notes/assumptions/15.md).
A fault or a refusal leaves the CPU Faulted or Refused, and no other step enters those modes (10_state.md R28, 60_exceptions.md R360).
That a step from such a state answers the same outcome with the same state is the model's choice, where R360 has no step at all
(DESIGN CHOICE, notes/assumptions/2.md). -/
def Obligations.IdleSteps : Prop :=
  (∀ s : State, s.cpu.run = .halted →
    step s = .next ((s.ticks 1).withCpu { s.cpu with run := if (s.ticks 1).irq.pending then .running else .halted })) ∧
  (∀ (s : State) (n : Nat), s.cpu.run = .switching n →
    step s = .next ((s.ticks 1).withCpu { s.cpu with run := if n ≤ 4 then .running else .switching (n - 4) })) ∧
  (∀ (s : State) (f : Fault), step s = .fault f → (∃ c, f.left.cpu.run = .faulted c) ∧ step f.left = .fault f) ∧
  (∀ (s : State) (q : Refusal), step s = .refused q → ∃ t, q.left = some t ∧ (∃ c, t.cpu.run = .refused c) ∧ step t = .refused q) ∧
  (∀ s t : State, step s = .next t → (∀ c, t.cpu.run ≠ .faulted c) ∧ ∀ c, t.cpu.run ≠ .refused c)

/-- EI's delay: a step that begins with ime Pending and executes an instruction ends with ime Enabled, or Disabled if that instruction is DI.
It is never still Pending (60_exceptions.md R364). -/
def Obligations.ImePromotion : Prop :=
  ∀ (s t : State), s.cpu.run = .running → s.cpu.ime = .pending → step s = .next t →
    t.cpu.ime = .enabled ∨ (t.cpu.ime = .disabled ∧ s.readByte s.cpu.pc = 0xF3)

/-! ## Loads -/

/-- `LD r8,r8'` and `LD r8,n8` (40_load.md R160, R161). -/
def Obligations.RegisterLoads : Prop :=
  (∀ (i : Instr) (dst src : R8) (s : State), i.form = .ldRegReg dst src → s.allWritten →
    exec i s = .next ((s.ticks 1).withCpu (s.setReg dst (s.reg src)).cpu)) ∧
  (∀ (i : Instr) (dst : R8) (n : Byte) (s : State), i.form = .ldRegImm dst n →
    exec i s = .next ((s.ticks 1).withCpu (s.setReg dst n).cpu))

/-- The loads from memory, HL's increment and decrement among them (40_load.md R162, R165, R166, R169, R171, R173, R175, R176). -/
def Obligations.MemoryLoads : Prop :=
  ∀ (i : Instr) (s : State), s.allWritten →
    (∀ dst, i.form = .ldRegMem dst → s.readGranted s.hl →
      exec i s = .next ((s.ticks 2).withCpu (s.setReg dst (s.nextByte s.hl)).cpu)) ∧
    (i.form = .ldAPtr .bc → s.readGranted (s.pair .bc) →
      exec i s = .next ((s.ticks 2).withCpu (s.setReg .a (s.nextByte (s.pair .bc))).cpu)) ∧
    (i.form = .ldAPtr .de → s.readGranted (s.pair .de) →
      exec i s = .next ((s.ticks 2).withCpu (s.setReg .a (s.nextByte (s.pair .de))).cpu)) ∧
    (∀ nn, i.form = .ldAAbs nn → s.readGranted nn →
      exec i s = .next ((s.ticks 2).withCpu (s.setReg .a (s.nextByte nn)).cpu)) ∧
    (i.form = .ldhAC → s.readGranted (0xFF00 + zext16 s.cpu.c) →
      exec i s = .next ((s.ticks 2).withCpu (s.setReg .a (s.nextByte (0xFF00 + zext16 s.cpu.c))).cpu)) ∧
    (∀ n, i.form = .ldhAImm n → s.readGranted (0xFF00 + zext16 n) →
      exec i s = .next ((s.ticks 2).withCpu (s.setReg .a (s.nextByte (0xFF00 + zext16 n))).cpu)) ∧
    (i.form = .ldAHlInc → s.readGranted s.hl →
      exec i s = .next ((s.ticks 2).withCpu ((s.setReg .a (s.nextByte s.hl)).setPair .hl (s.hl + 1)).cpu)) ∧
    (i.form = .ldAHlDec → s.readGranted s.hl →
      exec i s = .next ((s.ticks 2).withCpu ((s.setReg .a (s.nextByte s.hl)).setPair .hl (s.hl - 1)).cpu))

/-- The stores to memory (40_load.md R163, R164, R167, R168, R170, R172, R174, R177, R178). -/
def Obligations.MemoryStores : Prop :=
  ∀ (i : Instr) (s : State), s.allWritten →
    (∀ src, i.form = .ldMemReg src → s.writeGranted s.hl (s.reg src) →
      exec i s = .next ((s.nextWrite s.hl (s.reg src)).ticks 1)) ∧
    (∀ n, i.form = .ldMemImm n → s.writeGranted s.hl n → exec i s = .next ((s.nextWrite s.hl n).ticks 1)) ∧
    (i.form = .ldPtrA .bc → s.writeGranted (s.pair .bc) s.cpu.a →
      exec i s = .next ((s.nextWrite (s.pair .bc) s.cpu.a).ticks 1)) ∧
    (i.form = .ldPtrA .de → s.writeGranted (s.pair .de) s.cpu.a →
      exec i s = .next ((s.nextWrite (s.pair .de) s.cpu.a).ticks 1)) ∧
    (∀ nn, i.form = .ldAbsA nn → s.writeGranted nn s.cpu.a → exec i s = .next ((s.nextWrite nn s.cpu.a).ticks 1)) ∧
    (i.form = .ldhCA → s.writeGranted (0xFF00 + zext16 s.cpu.c) s.cpu.a →
      exec i s = .next ((s.nextWrite (0xFF00 + zext16 s.cpu.c) s.cpu.a).ticks 1)) ∧
    (∀ n, i.form = .ldhImmA n → s.writeGranted (0xFF00 + zext16 n) s.cpu.a →
      exec i s = .next ((s.nextWrite (0xFF00 + zext16 n) s.cpu.a).ticks 1)) ∧
    (i.form = .ldHlIncA → s.writeGranted s.hl s.cpu.a →
      exec i s = .next (((s.nextWrite s.hl s.cpu.a).ticks 1).withCpu (s.setPair .hl (s.hl + 1)).cpu)) ∧
    (i.form = .ldHlDecA → s.writeGranted s.hl s.cpu.a →
      exec i s = .next (((s.nextWrite s.hl s.cpu.a).ticks 1).withCpu (s.setPair .hl (s.hl - 1)).cpu))

/-- `LD r16,n16`, `LD (a16),SP` and `LD SP,HL` (40_load.md R179 to R181). -/
def Obligations.WordLoads : Prop :=
  ∀ (i : Instr) (s : State), s.allWritten →
    (∀ rr nn, i.form = .ldPairImm rr nn → exec i s = .next ((s.ticks 1).withCpu (s.setPair rr nn).cpu)) ∧
    (∀ nn, i.form = .ldAbsSp nn → s.writeGranted nn (loByte s.cpu.sp) →
      (s.nextWrite nn (loByte s.cpu.sp)).writeGranted (nn + 1) (hiByte s.cpu.sp) →
      exec i s = .next (((s.nextWrite nn (loByte s.cpu.sp)).nextWrite (nn + 1) (hiByte s.cpu.sp)).ticks 1)) ∧
    (i.form = .ldSpHl → exec i s = .next ((s.ticks 2).withCpu { s.cpu with sp := s.hl }))

/-- `PUSH` and `POP` (40_load.md R182, R183; for AF, F takes the low byte's top four bits, 10_state.md R23). -/
def Obligations.StackTransfers : Prop :=
  ∀ (i : Instr) (s : State), s.allWritten →
    (∀ rr, i.form = .push rr → s.pushGranted (s.stkPair rr) →
      exec i s = .next (((s.pushed (s.stkPair rr)).ticks 1).withCpu { s.cpu with sp := s.cpu.sp - 2 })) ∧
    (∀ rr, i.form = .pop rr → s.popGranted →
      exec i s = .next ((s.ticks 3).withCpu (match rr with
          | .bc => { s.cpu with b := hiByte s.popValue, c := loByte s.popValue, sp := s.cpu.sp + 2 }
          | .de => { s.cpu with d := hiByte s.popValue, e := loByte s.popValue, sp := s.cpu.sp + 2 }
          | .hl => { s.cpu with h := hiByte s.popValue, l := loByte s.popValue, sp := s.cpu.sp + 2 }
          | .af => { s.cpu with a := hiByte s.popValue, f := loByte s.popValue &&& 0xF0, sp := s.cpu.sp + 2 })))

/-! ## 8-bit arithmetic -/

/-- What the eight operations make of A and the flags, in exact arithmetic (41_alu8.md R200 to R226). -/
def Obligations.AluOperations : Prop :=
  ∀ (a v : Byte) (cy : Bool),
    aluOut .add a v cy = { a := a + v, z := a + v == 0, n := false, h := decide (15 < a.toNat % 16 + v.toNat % 16), c := decide (255 < a.toNat + v.toNat) } ∧
    aluOut .adc a v cy =
      { a := BitVec.ofNat 8 (a.toNat + v.toNat + cy.toNat), z := (a.toNat + v.toNat + cy.toNat) % 256 == 0, n := false
        h := decide (15 < a.toNat % 16 + v.toNat % 16 + cy.toNat), c := decide (255 < a.toNat + v.toNat + cy.toNat) } ∧
    aluOut .sub a v cy = { a := a - v, z := a == v, n := true, h := decide (a.toNat % 16 < v.toNat % 16), c := decide (a.toNat < v.toNat) } ∧
    aluOut .sbc a v cy =
      { a := BitVec.ofNat 8 (512 + a.toNat - v.toNat - cy.toNat), z := (512 + a.toNat - v.toNat - cy.toNat) % 256 == 0, n := true
        h := decide (a.toNat % 16 < v.toNat % 16 + cy.toNat), c := decide (a.toNat < v.toNat + cy.toNat) } ∧
    aluOut .and a v cy = { a := a &&& v, z := a &&& v == 0, n := false, h := true, c := false } ∧
    aluOut .xor a v cy = { a := a ^^^ v, z := a ^^^ v == 0, n := false, h := false, c := false } ∧
    aluOut .or a v cy = { a := a ||| v, z := a ||| v == 0, n := false, h := false, c := false } ∧
    aluOut .cp a v cy = { a := a, z := a == v, n := true, h := decide (a.toNat % 16 < v.toNat % 16), c := decide (a.toNat < v.toNat) }

/-- `alu A,r8`: A and the four flags are those of the operation, and nothing else of the CPU changes
(41_alu8.md R203, R206, R209, R212, R215, R218, R221, R224; the operations are in `AluOperations`). -/
def Obligations.AluRegister : Prop :=
  ∀ (i : Instr) (op : Alu) (src : R8) (s : State), i.form = .aluReg op src → s.allWritten →
    let x := aluOut op s.cpu.a (s.reg src) s.flagC
    exec i s = .next ((s.ticks 1).withCpu { s.cpu with a := x.a, f := packFlags x.z x.n x.h x.c })

/-- `alu A,(HL)`: the byte at HL is read in the second M-cycle (41_alu8.md R204, R207, R210, R213, R216, R219, R222, R225). -/
def Obligations.AluMemory : Prop :=
  ∀ (i : Instr) (op : Alu) (s : State), i.form = .aluMem op → s.allWritten → s.readGranted s.hl →
    let x := aluOut op s.cpu.a (s.nextByte s.hl) s.flagC
    exec i s = .next ((s.ticks 2).withCpu { s.cpu with a := x.a, f := packFlags x.z x.n x.h x.c })

/-- `alu A,n8` (41_alu8.md R205, R208, R211, R214, R217, R220, R223, R226). -/
def Obligations.AluImmediate : Prop :=
  ∀ (i : Instr) (op : Alu) (n : Byte) (s : State), i.form = .aluImm op n → s.allWritten →
    let x := aluOut op s.cpu.a n s.flagC
    exec i s = .next ((s.ticks 1).withCpu { s.cpu with a := x.a, f := packFlags x.z x.n x.h x.c })

/-- `INC` and `DEC` of a register and of `(HL)`: C keeps its value (41_alu8.md R227 to R230). -/
def Obligations.IncrementDecrement : Prop :=
  ∀ (i : Instr) (s : State), s.allWritten →
    (∀ dst, i.form = .incReg dst →
      exec i s = .next ((s.ticks 1).withCpu { (s.setReg dst (s.reg dst + 1)).cpu with f := packFlags (s.reg dst + 1 == 0) false ((s.reg dst).toNat % 16 == 15) s.flagC })) ∧
    (∀ dst, i.form = .decReg dst →
      exec i s = .next ((s.ticks 1).withCpu { (s.setReg dst (s.reg dst - 1)).cpu with f := packFlags (s.reg dst - 1 == 0) true ((s.reg dst).toNat % 16 == 0) s.flagC })) ∧
    (i.form = .incMem → s.readGranted s.hl → (s.ticks 1).writeGranted s.hl (s.nextByte s.hl + 1) →
      exec i s = .next ((((s.ticks 1).nextWrite s.hl (s.nextByte s.hl + 1)).ticks 1).withCpu { s.cpu with f := packFlags (s.nextByte s.hl + 1 == 0) false ((s.nextByte s.hl).toNat % 16 == 15) s.flagC })) ∧
    (i.form = .decMem → s.readGranted s.hl → (s.ticks 1).writeGranted s.hl (s.nextByte s.hl - 1) →
      exec i s = .next ((((s.ticks 1).nextWrite s.hl (s.nextByte s.hl - 1)).ticks 1).withCpu { s.cpu with f := packFlags (s.nextByte s.hl - 1 == 0) true ((s.nextByte s.hl).toNat % 16 == 0) s.flagC }))

/-- `DAA`, `CPL`, `SCF`, `CCF` (41_alu8.md R231 to R234). -/
def Obligations.AccumulatorAdjust : Prop :=
  ∀ (i : Instr) (s : State), s.allWritten →
    (i.form = .daa →
      let high := s.flagC || (!s.flagN && decide (0x99 < s.cpu.a.toNat))
      let low := s.flagH || (!s.flagN && decide (9 < s.cpu.a.toNat % 16))
      let fix := (if high then 0x60 else 0) + (if low then 0x06 else 0)
      let a := if s.flagN then s.cpu.a - fix else s.cpu.a + fix
      exec i s = .next ((s.ticks 1).withCpu { s.cpu with a := a, f := packFlags (a == 0) s.flagN false high })) ∧
    (i.form = .cpl → exec i s = .next ((s.ticks 1).withCpu { s.cpu with a := s.cpu.a ^^^ 0xFF, f := packFlags s.flagZ true true s.flagC })) ∧
    (i.form = .scf → exec i s = .next ((s.ticks 1).withCpu { s.cpu with f := packFlags s.flagZ false false true })) ∧
    (i.form = .ccf → exec i s = .next ((s.ticks 1).withCpu { s.cpu with f := packFlags s.flagZ false false (!s.flagC) }))

/-- The source's laws: a BCD addition or subtraction followed by DAA gives the BCD result (41_alu8.md R231), and SUB undoes
ADD with flags of the subtraction alone (R235). -/
def Obligations.ArithmeticLaws : Prop :=
  (∀ x y : Nat, x + y ≤ 99 →
    let o := aluOut .add (bcd x) (bcd y) false
    daaOut o.a o.n o.h o.c = { a := bcd (x + y), c := false }) ∧
  (∀ x y : Nat, x ≤ 99 → y ≤ x →
    let o := aluOut .sub (bcd x) (bcd y) false
    daaOut o.a o.n o.h o.c = { a := bcd (x - y), c := false }) ∧
  (∀ a b : Byte,
    aluOut .sub (aluOut .add a b false).a b false =
      { a := a, z := a == 0, n := true, h := decide ((a + b).toNat % 16 < b.toNat % 16), c := decide ((a + b).toNat < b.toNat) })

/-! ## 16-bit arithmetic -/

/-- `INC r16`, `DEC r16`, `ADD HL,r16`, `ADD SP,e8`, `LD HL,SP+e8` (42_alu16.md R250 to R254). -/
def Obligations.WordArithmetic : Prop :=
  ∀ (i : Instr) (s : State), s.allWritten →
    (∀ rr, i.form = .incPair rr → exec i s = .next ((s.ticks 2).withCpu (s.setPair rr (s.pair rr + 1)).cpu)) ∧
    (∀ rr, i.form = .decPair rr → exec i s = .next ((s.ticks 2).withCpu (s.setPair rr (s.pair rr - 1)).cpu)) ∧
    (∀ rr, i.form = .addHl rr →
      exec i s = .next ((s.ticks 2).withCpu { (s.setPair .hl (s.hl + s.pair rr)).cpu with
          f := packFlags s.flagZ false (decide (0x0FFF < s.hl.toNat % 0x1000 + (s.pair rr).toNat % 0x1000))
            (decide (0xFFFF < s.hl.toNat + (s.pair rr).toNat)) })) ∧
    (∀ e, i.form = .addSp e →
      exec i s = .next ((s.ticks 3).withCpu { s.cpu with
          sp := s.cpu.sp + e.signExtend 16
          f := packFlags false false (decide (15 < s.cpu.sp.toNat % 16 + e.toNat % 16)) (decide (255 < s.cpu.sp.toNat % 256 + e.toNat)) })) ∧
    (∀ e, i.form = .ldHlSp e →
      exec i s = .next ((s.ticks 2).withCpu { (s.setPair .hl (s.cpu.sp + e.signExtend 16)).cpu with
          f := packFlags false false (decide (15 < s.cpu.sp.toNat % 16 + e.toNat % 16)) (decide (255 < s.cpu.sp.toNat % 256 + e.toNat)) }))

/-! ## Rotates, shifts and bits -/

/-- The eight rotates and shifts, by the formulas of 43_rotate_shift_bit.md R275 to R290; SWAP clears the carry. -/
def Obligations.RotateOperations : Prop :=
  ∀ (o : Byte) (cy : Bool),
    rotated .rlc o cy = { r := (o <<< 1) ||| (o >>> 7), c := o.getLsbD 7 } ∧
    rotated .rrc o cy = { r := (o >>> 1) ||| (o <<< 7), c := o.getLsbD 0 } ∧
    rotated .rl o cy = { r := (o <<< 1) ||| (if cy then 0x01 else 0), c := o.getLsbD 7 } ∧
    rotated .rr o cy = { r := (o >>> 1) ||| (if cy then 0x80 else 0), c := o.getLsbD 0 } ∧
    rotated .sla o cy = { r := o <<< 1, c := o.getLsbD 7 } ∧
    rotated .sra o cy = { r := (o >>> 1) ||| (o &&& 0x80), c := o.getLsbD 0 } ∧
    rotated .swap o cy = { r := ((o &&& 0x0F) <<< 4) ||| (o >>> 4), c := false } ∧
    rotated .srl o cy = { r := o >>> 1, c := o.getLsbD 0 }

/-- The accumulator rotates clear Z (43_rotate_shift_bit.md R270 to R273); the rotates and shifts of a register set it by the
result (R275, R277, R279, R281, R283, R285, R287, R289). The operations are in `RotateOperations`. -/
def Obligations.RegisterRotates : Prop :=
  (∀ (i : Instr) (k : AccRot) (s : State), i.form = .rotA k → s.allWritten →
    let x := rotated (accRot k) s.cpu.a s.flagC
    exec i s = .next ((s.ticks 1).withCpu { s.cpu with a := x.r, f := packFlags false false false x.c })) ∧
  (∀ (i : Instr) (k : Rot) (r : R8) (s : State), i.form = .rotReg k r → s.allWritten →
    let x := rotated k (s.reg r) s.flagC
    exec i s = .next ((s.ticks 1).withCpu { (s.setReg r x.r).cpu with f := packFlags (x.r == 0) false false x.c }))

/-- The rotates and shifts of `(HL)`: a read, a device tick, a write of the result (43_rotate_shift_bit.md R274, R276, R278, R280, R282,
R284, R286, R288, R290). -/
def Obligations.MemoryRotates : Prop :=
  ∀ (i : Instr) (k : Rot) (s : State), i.form = .rotMem k → s.allWritten → s.readGranted s.hl →
    let x := rotated k (s.nextByte s.hl) s.flagC
    (s.ticks 1).writeGranted s.hl x.r →
    exec i s = .next ((((s.ticks 1).nextWrite s.hl x.r).ticks 1).withCpu { s.cpu with f := packFlags (x.r == 0) false false x.c })

/-- `BIT`, `RES`, `SET` of a register and of `(HL)` (43_rotate_shift_bit.md R291 to R296). -/
def Obligations.BitInstructions : Prop :=
  ∀ (i : Instr) (b : BitVec 3) (s : State), s.allWritten →
    (∀ r, i.form = .bitReg b r →
      exec i s = .next ((s.ticks 1).withCpu { s.cpu with f := packFlags (!(s.reg r).getLsbD b.toNat) false true s.flagC })) ∧
    (i.form = .bitMem b → s.readGranted s.hl →
      exec i s = .next ((s.ticks 2).withCpu { s.cpu with f := packFlags (!(s.nextByte s.hl).getLsbD b.toNat) false true s.flagC })) ∧
    (∀ r, i.form = .resReg b r → exec i s = .next ((s.ticks 1).withCpu (s.setReg r (s.reg r &&& ~~~((1 : Byte) <<< b.toNat))).cpu)) ∧
    (∀ r, i.form = .setReg b r → exec i s = .next ((s.ticks 1).withCpu (s.setReg r (s.reg r ||| ((1 : Byte) <<< b.toNat))).cpu)) ∧
    (i.form = .resMem b → s.readGranted s.hl → (s.ticks 1).writeGranted s.hl (s.nextByte s.hl &&& ~~~((1 : Byte) <<< b.toNat)) →
      exec i s = .next (((s.ticks 1).nextWrite s.hl (s.nextByte s.hl &&& ~~~((1 : Byte) <<< b.toNat))).ticks 1)) ∧
    (i.form = .setMem b → s.readGranted s.hl → (s.ticks 1).writeGranted s.hl (s.nextByte s.hl ||| ((1 : Byte) <<< b.toNat)) →
      exec i s = .next (((s.ticks 1).nextWrite s.hl (s.nextByte s.hl ||| ((1 : Byte) <<< b.toNat))).ticks 1))

/-! ## Control -/

/-- `JP`, `JP cc`, `JP HL`, `JR`, `JR cc`: pc alone changes; taken and not taken (44_control.md R311 to R315). pc is the address after
the instruction (10_state.md R25). -/
def Obligations.Jumps : Prop :=
  ∀ (i : Instr) (s : State), s.allWritten →
    (∀ nn, i.form = .jp nn → exec i s = .next ((s.ticks 2).withCpu { s.cpu with pc := nn })) ∧
    (∀ cc nn, i.form = .jpCc cc nn →
      (s.condHolds cc → exec i s = .next ((s.ticks 2).withCpu { s.cpu with pc := nn })) ∧
      (¬ s.condHolds cc → exec i s = .next (s.ticks 1))) ∧
    (i.form = .jpHl → exec i s = .next ((s.ticks 1).withCpu { s.cpu with pc := s.hl })) ∧
    (∀ e, i.form = .jr e → exec i s = .next ((s.ticks 2).withCpu { s.cpu with pc := s.cpu.pc + e.signExtend 16 })) ∧
    (∀ cc e, i.form = .jrCc cc e →
      (s.condHolds cc → exec i s = .next ((s.ticks 2).withCpu { s.cpu with pc := s.cpu.pc + e.signExtend 16 })) ∧
      (¬ s.condHolds cc → exec i s = .next (s.ticks 1)))

/-- `CALL`, `CALL cc` and `RST` push pc and jump; a `CALL cc` not taken does neither (44_control.md R316, R317, R321). -/
def Obligations.Calls : Prop :=
  ∀ (i : Instr) (s : State), s.allWritten →
    (∀ nn, i.form = .call nn → s.pushGranted s.cpu.pc →
      exec i s = .next (((s.pushed s.cpu.pc).ticks 1).withCpu { s.cpu with sp := s.cpu.sp - 2, pc := nn })) ∧
    (∀ cc nn, i.form = .callCc cc nn →
      (s.condHolds cc → s.pushGranted s.cpu.pc →
        exec i s = .next (((s.pushed s.cpu.pc).ticks 1).withCpu { s.cpu with sp := s.cpu.sp - 2, pc := nn })) ∧
      (¬ s.condHolds cc → exec i s = .next (s.ticks 1))) ∧
    (∀ y, i.form = .rst y → s.pushGranted s.cpu.pc →
      exec i s = .next (((s.pushed s.cpu.pc).ticks 1).withCpu { s.cpu with sp := s.cpu.sp - 2, pc := BitVec.ofNat 16 (8 * y.toNat) }))

/-- `RET`, `RET cc` and `RETI` pop pc; `RETI` enables interrupts at once; a `RET cc` not taken reads nothing (44_control.md R318 to R320). -/
def Obligations.Returns : Prop :=
  ∀ (i : Instr) (s : State), s.allWritten →
    (i.form = .ret → s.popGranted →
      exec i s = .next ((s.ticks 4).withCpu { s.cpu with sp := s.cpu.sp + 2, pc := s.popValue })) ∧
    (∀ cc, i.form = .retCc cc →
      (s.condHolds cc → (s.ticks 1).popGranted →
        exec i s = .next ((s.ticks 5).withCpu { s.cpu with sp := s.cpu.sp + 2, pc := (s.ticks 1).popValue })) ∧
      (¬ s.condHolds cc → exec i s = .next (s.ticks 2))) ∧
    (i.form = .reti → s.popGranted →
      exec i s = .next ((s.ticks 4).withCpu { s.cpu with sp := s.cpu.sp + 2, pc := s.popValue, ime := .enabled }))

/-! ## System -/

/-- `NOP`, `DI`, `EI` (45_system.md R340, R343, R344). -/
def Obligations.NopDiEi : Prop :=
  ∀ (i : Instr) (s : State),
    (i.form = .nop → exec i s = .next (s.ticks 1)) ∧
    (i.form = .di → exec i s = .next ((s.ticks 1).withCpu { s.cpu with ime := .disabled })) ∧
    (i.form = .ei → exec i s = .next ((s.ticks 1).withCpu { s.cpu with ime := if s.cpu.ime = .disabled then .pending else s.cpu.ime }))

/-- `HALT`, its three cases and the HALT bug (45_system.md R342). The pending interrupts are those before the M-cycle's device tick (the model's
reading: notes/assumptions/21.md). -/
def Obligations.HaltCases : Prop :=
  ∀ (i : Instr) (s : State), i.form = .halt →
    (s.cpu.ime = .pending → exec i s = .next ((s.ticks 1).withCpu { s.cpu with ime := .enabled, pc := s.cpu.pc - 1 })) ∧
    (s.cpu.ime ≠ .pending → s.irq.pending = true →
      exec i s = .next ((s.ticks 1).withCpu { s.cpu with haltBug := if s.cfg.haltBug = true ∧ s.cpu.ime = .disabled then true else s.cpu.haltBug })) ∧
    (s.cpu.ime ≠ .pending → s.irq.pending = false → exec i s = .next ((s.ticks 1).withCpu { s.cpu with run := .halted }))

/-- `STOP`: the CGB speed switch (the counter reset is that of a DIV write, at the new speed: notes/assumptions/15.md), else refused (45_system.md R341). -/
def Obligations.StopCases : Prop :=
  ∀ (i : Instr) (n : Byte) (s : State), i.form = .stop n →
    (s.cfg.cgbMode = true → s.bus.keyArmed = true →
      ∃ t, exec i s = .next t ∧
        t.bus = { s.bus with doubleSpeed := !s.bus.doubleSpeed, keyArmed := false } ∧ t.timer.div = 4 ∧
        t.cpu = { s.cpu with run := if s.cfg.speedSwitchT = 0 then .running else .switching s.cfg.speedSwitchT }) ∧
    (¬ (s.cfg.cgbMode = true ∧ s.bus.keyArmed = true) →
      exec i s = .refused (.stopMode s.cpu.opcodeAddr (s.withCpu { s.cpu with run := .refused (.stopMode s.cpu.opcodeAddr) })))

/-- The eleven illegal opcodes: each is one byte, its meaning faults in every state, and a step that fetches one faults with the opcode and
its address in that M-cycle: pc is past the byte, no device has ticked, and nothing else changes (30_encoding.md R140, 45_system.md R345). -/
def Obligations.IllegalOpcodesFault : Prop :=
  ∀ (op : Byte), op ∈ ([0xD3, 0xDB, 0xDD, 0xE3, 0xE4, 0xEB, 0xEC, 0xED, 0xF4, 0xFC, 0xFD] : List Byte) →
    (∃ i, decode [op] = .ok (i, []) ∧
      ∀ s : State, exec i s =
        .fault (.illegalOpcode op s.cpu.opcodeAddr (s.withCpu { s.cpu with run := .faulted (.illegalOpcode op s.cpu.opcodeAddr) }))) ∧
    ∀ s : State, s.cpu.run = .running → s.takesInterrupt = false → s.readRefusal s.cpu.pc = none → s.readByte s.cpu.pc = op →
      step s = .fault (.illegalOpcode op s.cpu.pc
        (s.withCpu { s.cpu with opcodeAddr := s.cpu.pc, pc := s.pc1, haltBug := s.cpu.haltBug && !s.cfg.haltBug, run := .faulted (.illegalOpcode op s.cpu.pc) })) ∧
      (s.cfg.haltBug = false → s.pc1 = s.cpu.pc + 1)

/-- The bare prefix byte runs the CB-page instruction of the next byte; on a register operand it completes (30_encoding.md R139). That the table's row of the
bare prefix has a meaning of its own is the model's reading (notes/assumptions/9.md). -/
def Obligations.PrefixRunsCbPage : Prop :=
  ∀ (i : Instr) (s : State), i.form = .cbPage → s.readGranted s.cpu.pc →
    let op := s.nextByte s.cpu.pc
    let s1 : State := ((s.ticks 1).withCpu { s.cpu with pc := s.cpu.pc + 1 })
    exec i s = exec (decodeCb op) s1 ∧ (s.allWritten → op.toNat % 8 ≠ 6 → ∃ t, exec i s = .next t)

/-! ## Frames, over every instruction -/

/-- Every register an instruction does not write keeps its value: the `r8` registers but its destinations (`Form.dests`), SP but for the
instructions of 10_state.md R22 (`Form.writesSp`). -/
def Obligations.FrameRegisters : Prop :=
  ∀ (i : Instr) (s t : State), i.wellFormed = true → exec i s = .next t →
    (∀ r, r ∉ i.form.dests → t.reg r = s.reg r) ∧ (i.form.writesSp = false → t.cpu.sp = s.cpu.sp)

/-- Every bit of F an instruction does not write keeps its value (10_state.md R24; `Form.flagMask` has the bits it writes). -/
def Obligations.FrameFlags : Prop :=
  ∀ (i : Instr) (s t : State), i.wellFormed = true → s.allWritten → s.flagsWf → exec i s = .next t →
    t.cpu.f &&& ~~~i.form.flagMask = s.cpu.f &&& ~~~i.form.flagMask

/-- Only DI, EI, RETI and HALT write ime; only HALT and STOP write the run mode; only HALT sets the HALT bug (10_state.md R27, R28, R29). -/
def Obligations.FrameControl : Prop :=
  ∀ (i : Instr) (s t : State), i.wellFormed = true → exec i s = .next t →
    (i.form.writesIme = false → t.cpu.ime = s.cpu.ime) ∧
    (i.form.writesRun = false → t.cpu.run = s.cpu.run) ∧
    (i.form ≠ .halt → t.cpu.haltBug = s.cpu.haltBug) ∧
    (t.cpu.run = .halted → s.cpu.run ≠ .halted → i = .halt)

/-- Every byte of memory outside the bytes an instruction stores to keeps its value: every cell of every bank, but OAM's while OAM DMA runs
or is started by the store. `Form.stores` computes the addresses stored to as the meaning does; cells are the model's layout of memory (notes/assumptions/6.md). -/
def Obligations.FrameMemory : Prop :=
  ∀ (i : Instr) (s t : State) (k : Nat), i.wellFormed = true → exec i s = .next t →
    (∀ a ∈ i.form.stores s, s.key a ≠ some k) →
    (isOamKey k → s.dma = .disabled ∧ 0xFF46 ∉ i.form.stores s) →
    t.mem.read k = s.mem.read k

/-- An instruction that stores nothing, STOP apart, changes nothing but the CPU's registers: the rest of the state is what one to five device ticks make of it. -/
def Obligations.FrameDevices : Prop :=
  ∀ (i : Instr) (s t : State), i.wellFormed = true → i.form.stores s = [] → (∀ n, i.form ≠ .stop n) → exec i s = .next t →
    ∃ n, 1 ≤ n ∧ n ≤ 5 ∧ t = ((s.ticks n).withCpu (t.cpu))

/-- What a device tick leaves: the CPU, the parameters, the bank and speed registers, the registers no device writes; and requests are only
added to IF (60_exceptions.md R361). Memory is unchanged outside OAM. -/
def Obligations.TickFrame : Prop :=
  ∀ s : State,
    (s.ticks 1).cpu = s.cpu ∧ (s.ticks 1).cfg = s.cfg ∧ (s.ticks 1).bus = s.bus ∧ (s.ticks 1).dmaReg = s.dmaReg ∧
    (s.ticks 1).irq.ie = s.irq.ie ∧ (s.ticks 1).irq.iflag &&& s.irq.iflag = s.irq.iflag ∧
    (s.ticks 1).timer.tma = s.timer.tma ∧ (s.ticks 1).timer.tac = s.timer.tac ∧ (s.ticks 1).timer.div = s.timer.div + 4 ∧
    (s.ticks 1).joypad.pressed = s.joypad.pressed ∧ (s.ticks 1).joypad.select = s.joypad.select ∧
    (s.ticks 1).ppu.lcdc = s.ppu.lcdc ∧ (s.ticks 1).ppu.scy = s.ppu.scy ∧ (s.ticks 1).ppu.scx = s.ppu.scx ∧
    (s.ticks 1).ppu.lyc = s.ppu.lyc ∧ (s.ticks 1).ppu.wy = s.ppu.wy ∧ (s.ticks 1).ppu.wx = s.ppu.wx ∧
    (s.ticks 1).ppu.bgp = s.ppu.bgp ∧ (s.ticks 1).ppu.obp0 = s.ppu.obp0 ∧ (s.ticks 1).ppu.obp1 = s.ppu.obp1 ∧
    (s.ticks 1).ppu.bgPalette = s.ppu.bgPalette ∧ (s.ticks 1).ppu.objPalette = s.ppu.objPalette ∧
    (s.ticks 1).apu.power = s.apu.power ∧ (s.ticks 1).apu.nr50 = s.apu.nr50 ∧ (s.ticks 1).apu.nr51 = s.apu.nr51 ∧
    (s.ticks 1).apu.waveRam = s.apu.waveRam ∧
    ∀ k, ¬ isOamKey k → (s.ticks 1).mem.read k = s.mem.read k

/-! ## Invariants every step keeps -/

/-- Memory and the framebuffer keep their canonical form, which is the model's own (notes/assumptions/6.md). -/
def Obligations.StoresStayCanonical : Prop :=
  ∀ s t : State, s.mem.wf → SparseWf blankPixel s.ppu.frame → step s = .next t → t.mem.wf ∧ SparseWf blankPixel t.ppu.frame

/-- F's low four bits always read 0 (10_state.md R23). -/
def Obligations.FlagsStayWellFormed : Prop :=
  ∀ s t : State, s.flagsWf → step s = .next t → t.flagsWf

/-- The PPU's position stays in range and its mode is that of its position (61_video_audio.md R461, R472). -/
def Obligations.PpuModeFollowsPosition : Prop :=
  ∀ s t : State, s.ppu.positionWf s.cfg → step s = .next t → t.ppu.positionWf t.cfg

/-- A channel is on only while its DAC is (61_video_audio.md R488, R489). -/
def Obligations.ChannelsNeedDacs : Prop :=
  ∀ s t : State, s.apu.dacWf → step s = .next t → t.apu.dacWf

/-- OAM DMA stays inside OAM, from a source the spec allows (20_memory.md R95, R96). -/
def Obligations.DmaStaysInRange : Prop :=
  ∀ s t : State, s.dmaWf → step s = .next t → t.dmaWf

/-- MBC1's and MBC2's bank registers are never 0 (20_memory.md R89, R91). -/
def Obligations.BankRegistersNeverZero : Prop :=
  ∀ s t : State, s.bus.banksWf → step s = .next t → t.bus.banksWf

/-- No step changes a parameter, a byte of the cartridge's ROM or a byte of the boot ROM (20_memory.md R85). -/
def Obligations.HardwareIsFixed : Prop :=
  ∀ s t : State, s.cfg.ramFits → step s = .next t → SameHardware s t

/-- The boot ROM is never mapped again (20_memory.md R79), no step changes the pressed set (60_exceptions.md R394), and only STOP changes the speed (45_system.md R341). -/
def Obligations.OneWayState : Prop :=
  (∀ s t : State, step s = .next t → (t.bus.bootMapped = true → s.bus.bootMapped = true) ∧ t.joypad.pressed = s.joypad.pressed) ∧
  (∀ (i : Instr) (s t : State), exec i s = .next t → t.bus.doubleSpeed ≠ s.bus.doubleSpeed → ∃ n, i = .stop n)

/-- Every register stays written, and the one fault of a machine whose registers are written is an illegal opcode (60_exceptions.md R360, 10_state.md R26).
The premise `faultWf` leaves out states no run reaches, Faulted with another cause; every step keeps it, the state a fault leaves included. -/
def Obligations.OnlyIllegalOpcodesFault : Prop :=
  ∀ s : State, s.allWritten → s.faultWf →
    (∀ t, step s = .next t → t.allWritten ∧ t.faultWf) ∧
    (∀ f, step s = .fault f → f.left.allWritten ∧ f.left.faultWf ∧
      ∃ op addr t, f = .illegalOpcode op addr t ∧ op ∈ illegalOpcodes)

/-- The invariants above hold at reset. The PPU's position and the contents of memory there are the model's choices (notes/assumptions/4.md, 6.md). -/
def Obligations.InvariantsAtReset : Prop :=
  State.reset.mem.wf ∧ SparseWf blankPixel State.reset.ppu.frame ∧ State.reset.flagsWf ∧
  State.reset.ppu.positionWf State.reset.cfg ∧ State.reset.apu.dacWf ∧ State.reset.dmaWf ∧ State.reset.bus.banksWf ∧
  State.reset.cfg.ramFits ∧ State.reset.allWritten ∧ State.reset.faultWf

/-! ## Reset -/

/-- The post-boot CPU registers of every device: with the default `POST_BOOT` they are the table of 10_state.md R60 (its draws left out). -/
def Obligations.ResetRegisters : Prop :=
  ∀ (cfg : Params) (hc : Bool) (mem : Memory), cfg.postBoot = PostBoot.default →
    let c := (State.postBoot cfg hc mem).cpu
    c.sp = 0xFFFE ∧ c.pc = 0x0100 ∧ c.ime = .disabled ∧ c.run = .running ∧ c.unwritten = [] ∧
    (cfg.device = .dmg → c.a = 0x01 ∧ c.f = packFlags true false hc hc ∧ c.b = 0x00 ∧ c.c = 0x13 ∧ c.d = 0x00 ∧ c.e = 0xD8 ∧ c.h = 0x01 ∧ c.l = 0x4D) ∧
    (cfg.device = .mgb → c.a = 0xFF ∧ c.f = packFlags true false hc hc ∧ c.b = 0x00 ∧ c.c = 0x13 ∧ c.d = 0x00 ∧ c.e = 0xD8 ∧ c.h = 0x01 ∧ c.l = 0x4D) ∧
    (cfg.device = .sgb → c.a = 0x01 ∧ c.f = 0x00 ∧ c.b = 0x00 ∧ c.c = 0x14 ∧ c.d = 0x00 ∧ c.e = 0x00 ∧ c.h = 0xC0 ∧ c.l = 0x60) ∧
    (cfg.device = .sgb2 → c.a = 0xFF ∧ c.f = 0x00 ∧ c.b = 0x00 ∧ c.c = 0x14 ∧ c.d = 0x00 ∧ c.e = 0x00 ∧ c.h = 0xC0 ∧ c.l = 0x60) ∧
    (cfg.device = .cgb → cfg.cgbMode = true →
      c.a = 0x11 ∧ c.f = 0x80 ∧ c.b = 0x00 ∧ c.c = 0x00 ∧ c.d = 0xFF ∧ c.e = 0x56 ∧ c.h = 0x00 ∧ c.l = 0x0D) ∧
    (cfg.device = .cgb → cfg.cgbMode = false → c.a = 0x11 ∧ c.f = 0x80 ∧ c.c = 0x00 ∧ c.d = 0x00 ∧ c.e = 0x08)

/-- What the I/O registers of a DMG read right after reset (10_state.md R61; the draws OBP0, OBP1 and the PPU's position left out).
That `State.reset` is a DMG is the model's choice (notes/assumptions/1.md). -/
def Obligations.ResetIoReads : Prop :=
  ∀ p ∈ ([(0xFF00, 0xCF), (0xFF01, 0x00), (0xFF02, 0x7E), (0xFF04, 0xAB), (0xFF05, 0x00), (0xFF06, 0x00), (0xFF07, 0xF8), (0xFF0F, 0xE1),
      (0xFF10, 0x80), (0xFF11, 0xBF), (0xFF12, 0xF3), (0xFF13, 0xFF), (0xFF14, 0xBF), (0xFF16, 0x3F), (0xFF17, 0x00), (0xFF18, 0xFF),
      (0xFF19, 0xBF), (0xFF1A, 0x7F), (0xFF1B, 0xFF), (0xFF1C, 0x9F), (0xFF1D, 0xFF), (0xFF1E, 0xBF)] ++
    [(0xFF20, 0xFF), (0xFF21, 0x00), (0xFF22, 0x00), (0xFF23, 0xBF), (0xFF24, 0x77), (0xFF25, 0xF3), (0xFF26, 0xF1), (0xFF40, 0x91),
      (0xFF42, 0x00), (0xFF43, 0x00), (0xFF45, 0x00), (0xFF46, 0xFF), (0xFF47, 0xFC), (0xFF4A, 0x00), (0xFF4B, 0x00), (0xFFFF, 0x00)] : List (Word × Byte)),
    State.reset.readByte p.1 = p.2

/-! ## The bus -/

/-- Echo RAM is work RAM under another address, read and written (20_memory.md R83). -/
def Obligations.EchoRam : Prop :=
  ∀ (s : State) (a : Word) (v : Byte), 0xE000 ≤ a → a < 0xFE00 →
    s.readByte a = s.readByte (a - 0x2000) ∧ s.writeByte a v = s.writeByte (a - 0x2000) v

/-- Work RAM, echo RAM and high RAM hold what was last written, and no write to one of their bytes reaches another cell (20_memory.md R80, R84, R99). -/
def Obligations.RamReadsBack : Prop :=
  ∀ (s : State) (a : Word) (v : Byte), (0xC000 ≤ a ∧ a < 0xFE00) ∨ (0xFF80 ≤ a ∧ a < 0xFFFF) →
    (s.writeByte a v).readByte a = v ∧
    ∀ b : Word, s.key b ≠ s.key a → (s.writeByte a v).readByte b = s.readByte b

/-- During OAM DMA a CPU access below 0xFF00 is refused, and a read from 0xFF00 up is not; so a step whose fetch lies below 0xFF00 is refused
(20_memory.md R97). For an MBC5 RAM-enable write that R92 refuses as well, that R97's refusal is the one reported is the model's choice (DESIGN CHOICE,
notes/assumptions/32.md). A refusal leaves the state of its M-cycle: of an opcode fetch, that with `opcode_address` set (30_encoding.md R131), and of a store refused in the
second one, the state one device tick on (60_exceptions.md R360). The PPU access lock: in DrawLine VRAM, OAM and the CGB palette data, in OamScan OAM, read 0xFF and ignore writes while the LCD is on (R98). -/
def Obligations.RefusedAndLockedAccesses : Prop :=
  (∀ (s : State), s.dma ≠ .disabled →
    (∀ a v, a < 0xFF00 → s.readRefusal a = some (.dmaBusConflict a) ∧ s.writeRefusal a v = some (.dmaBusConflict a)) ∧
    (∀ a, 0xFF00 ≤ a → s.readRefusal a = none) ∧
    (s.cpu.run = .running → s.takesInterrupt = false → s.cpu.pc < 0xFF00 →
      step s = .refused (.dmaBusConflict s.cpu.pc (s.withCpu { s.cpu with opcodeAddr := s.cpu.pc, run := .refused (.dmaBusConflict s.cpu.pc) })))) ∧
  (∀ (i : Instr) (src : R8) (s : State), i.form = .ldMemReg src → s.allWritten → (s.ticks 1).dma ≠ .disabled → s.hl < 0xFF00 →
    exec i s = .refused (.dmaBusConflict s.hl ((s.ticks 1).withCpu { s.cpu with run := .refused (.dmaBusConflict s.hl) }))) ∧
  (∀ (s : State) (a : Word) (v : Byte), s.cfg.ppuAccessLock = true → s.ppu.lcdOn = true →
    (s.ppu.mode = .drawLine ∧ ((0x8000 ≤ a ∧ a < 0xA000) ∨ (0xFE00 ≤ a ∧ a < 0xFEA0) ∨
        (s.cfg.cgbMode = true ∧ (a = 0xFF69 ∨ a = 0xFF6B))) ∨
      s.ppu.mode = .oamScan ∧ 0xFE00 ≤ a ∧ a < 0xFEA0) →
    s.readByte a = 0xFF ∧ s.writeByte a v = s)

/-- OAM DMA at one T-cycle per byte: a tick copies the next four bytes of the source into OAM, and nothing else (20_memory.md R96). -/
def Obligations.DmaCopiesFourBytes : Prop :=
  ∀ (s : State) (start : Word) (n : Nat), s.cfg.dmaTPerByte = 1 → s.dma = .transferring start n 0 → n + 4 ≤ 160 →
    (∀ j, j < 4 → (s.ticks 1).mem.read (oamBase + n + j) = s.readRouted (start + BitVec.ofNat 16 (n + j))) ∧
    (∀ k, (k < oamBase + n ∨ oamBase + n + 4 ≤ k) → (s.ticks 1).mem.read k = s.mem.read k) ∧
    (s.ticks 1).dma = if n + 4 = 160 then .disabled else .transferring start (n + 4) 0

/-- MBC1: each register's range and value, the other registers kept, with the zero test on the 5-bit field alone; the banks behind the two ROM
windows; and so a write of 0 selects bank 1, 0x21, 0x41 or 0x61 by `bank2` (20_memory.md R88, R89). -/
def Obligations.Mbc1Banking : Prop :=
  ∀ (s : State) (c : Cart) (a : Word) (v : Byte), s.cfg.cart = some c → c.controller = .mbc1 →
    (a < 0x2000 → (s.writeByte a v).bus = { s.bus with mbc1 := { s.bus.mbc1 with ramEnable := v &&& 0x0F == 0x0A } }) ∧
    (0x2000 ≤ a → a < 0x4000 →
      (s.writeByte a v).bus = { s.bus with mbc1 := { s.bus.mbc1 with bank1 := BitVec.ofNat 5 (if v.toNat % 32 = 0 then 1 else v.toNat % 32) } }) ∧
    (0x4000 ≤ a → a < 0x6000 → (s.writeByte a v).bus = { s.bus with mbc1 := { s.bus.mbc1 with bank2 := BitVec.ofNat 2 (v.toNat % 4) } }) ∧
    (0x6000 ≤ a → a < 0x8000 → (s.writeByte a v).bus = { s.bus with mbc1 := { s.bus.mbc1 with mode := v.toNat % 2 == 1 } }) ∧
    (a < 0x4000 → ¬ (a < 0x0100 ∧ s.bus.bootMapped = true) →
      s.readByte a = s.mem.read (romBase + (if s.bus.mbc1.mode then s.bus.mbc1.bank2.toNat * 32 else 0) % c.romBanks * 0x4000 + a.toNat)) ∧
    (0x4000 ≤ a → a < 0x8000 →
      s.readByte a = s.mem.read (romBase + (s.bus.mbc1.bank2.toNat * 32 + s.bus.mbc1.bank1.toNat) % c.romBanks * 0x4000 + (a.toNat - 0x4000))) ∧
    (0x2000 ≤ a → a < 0x4000 → v.toNat % 32 = 0 → ∀ b : Word, 0x4000 ≤ b → b < 0x8000 →
      (s.writeByte a v).readByte b = s.mem.read (romBase + (s.bus.mbc1.bank2.toNat * 32 + 1) % c.romBanks * 0x4000 + (b.toNat - 0x4000)))

/-! ## Devices -/

/-- The timer, counting from 0: TIMA goes up once every `2 * 2^bit` T-cycles, bit being that of TAC (60_exceptions.md R381). -/
def Obligations.TimerRate : Prop :=
  ∀ (ds : Bool) (t : Timer) (a : Apu) (n : Nat), t.div = 0 → t.tima = 0 → t.phase = .normal → t.tac.getLsbD 2 = true →
    n < 256 * 2 ^ (fallBit t.tac + 1) →
    (timerCount ds n (t, a)).1.tima = BitVec.ofNat 8 (n / 2 ^ (fallBit t.tac + 1))

/-- The timer's update in a device tick, in each of its three phases, the timer enabled or not: the update after an overflow loads TMA and requests
the interrupt, the one after that returns to Normal, and if the signal falls among the tick's four counts TIMA is counted once, which at 0xFF
overflows (60_exceptions.md R381, R385, R386). A write of TIMA cancels a pending reload and is ignored right after one; a write of TMA stores its value alone (R383).
A write of DIV resets the counter, TIMA counts it if the signal was 1, and the frame sequencer steps if its bit was (R382; 61_video_audio.md R481). -/
def Obligations.TimerOverflowAndDiv : Prop :=
  (∀ s : State, s.timer.phase = .overflow →
    (s.ticks 1).irq.iflag.getLsbD 2 = true ∧
    (s.ticks 1).timer.tima = (if s.timer.fallsInTick then s.timer.tma + 1 else s.timer.tma) ∧
    (s.ticks 1).timer.phase = (if s.timer.fallsInTick = true ∧ s.timer.tma = 0xFF then .overflow else .overflowProcessed)) ∧
  (∀ s : State, s.timer.phase ≠ .overflow →
    (s.ticks 1).irq.iflag.getLsbD 2 = s.irq.iflag.getLsbD 2 ∧
    (s.ticks 1).timer.tima = (if s.timer.fallsInTick then s.timer.tima + 1 else s.timer.tima) ∧
    (s.ticks 1).timer.phase = (if s.timer.fallsInTick = true ∧ s.timer.tima = 0xFF then .overflow else .normal)) ∧
  (∀ (s : State) (v : Byte),
    (s.timer.phase = .normal → (s.writeByte 0xFF05 v).timer = { s.timer with tima := v }) ∧
    (s.timer.phase = .overflow → (s.writeByte 0xFF05 v).timer = { s.timer with tima := v, phase := .normal }) ∧
    (s.timer.phase = .overflowProcessed → (s.writeByte 0xFF05 v).timer = s.timer) ∧
    s.writeByte 0xFF06 v = { s with timer := { s.timer with tma := v } }) ∧
  (∀ (s : State) (v : Byte),
    let counts : Bool := s.timer.tac.getLsbD 2 && s.timer.div.getLsbD (fallBit s.timer.tac)
    (s.writeByte 0xFF04 v).timer =
      { s.timer with
        div := 0
        tima := if counts then s.timer.tima + 1 else s.timer.tima
        phase := if counts && s.timer.tima == 0xFF then .overflow else s.timer.phase } ∧
    (s.writeByte 0xFF04 v).apu = if s.timer.div.getLsbD (if s.bus.doubleSpeed then 13 else 12) then s.apu.frameStep else s.apu)

/-- The serial port and the joypad: a transfer completes after its T-cycles with the received byte and a request (60_exceptions.md R390);
after a host key change a P1 line that went from 1 to 0 requests the joypad interrupt, a line that went up does not (R393). -/
def Obligations.SerialAndJoypad : Prop :=
  (∀ (s : State) (n : Nat), s.serial.elapsed = some n →
    (serialPeriod s.cfg s.serial ≤ n + 4 →
      (s.ticks 1).serial = { s.serial with sb := s.cfg.serialInByte, active := false, elapsed := none } ∧ (s.ticks 1).irq.iflag.getLsbD 3 = true) ∧
    (n + 4 < serialPeriod s.cfg s.serial → (s.ticks 1).serial = { s.serial with elapsed := some (n + 4) })) ∧
  (∀ (s : State) (k : Button) (pressed : Bool),
    (s.setKey k pressed).irq.iflag.getLsbD 4 =
      (s.irq.iflag.getLsbD 4 || (s.joypad.lines &&& ~~~(s.setKey k pressed).joypad.inputLines != 0)))

/-- The PPU: line 144's first T-cycle enters VBlank and requests its interrupt (61_video_audio.md R461, R468); switching the LCD off leaves line 0, mode 0
(R472); a write of STAT or LYC requests nothing (R469). -/
def Obligations.PpuEvents : Prop :=
  (∀ (cfg : Params) (mem : Memory) (p : Ppu) (q : Irq), p.lcdOn = true → p.line = 143 → p.clock = 455 →
    let r := ppuDot cfg mem (p, q)
    r.1.mode = .vBlank ∧ r.1.line = 144 ∧ r.1.clock = 0 ∧ r.1.frames = p.frames + 1 ∧ r.2.iflag.getLsbD 0 = true) ∧
  (∀ (s : State) (v : Byte), s.ppu.lcdOn = true → v.getLsbD 7 = false →
    let t := s.writeByte 0xFF40 v
    t.ppu.line = 0 ∧ t.ppu.clock = 0 ∧ t.readByte 0xFF44 = 0 ∧ (t.readByte 0xFF41).setWidth 2 = (0 : BitVec 2) ∧ t.irq = s.irq) ∧
  (∀ (s : State) (v : Byte), (s.writeByte 0xFF41 v).irq = s.irq ∧ (s.writeByte 0xFF45 v).irq = s.irq ∧
    (s.writeByte 0xFF45 v).ppu.coincidence = (s.ppu.ly == v))
end

