-- ==== Sys2Proof/Laws/Memory.lean ====
section
/-! SUPPORT. The laws of the sparse stores: read after write, and that every memory operation keeps the canonical form. -/

namespace Sys2Proof.Machine

section Sparse

variable {α : Type} (dflt : Nat → α)

theorem sparseRead_erase_same (k : Nat) (l : List (Nat × α)) : sparseRead dflt k (sparseErase k l) = dflt k := by
  induction l with
  | nil => rfl
  | cons x rest ih =>
    by_cases h : x.1 = k
    · simpa [sparseErase, h] using ih
    · simpa [sparseErase, h, sparseRead] using ih

theorem sparseRead_erase_other {k j : Nat} (h : j ≠ k) (l : List (Nat × α)) :
    sparseRead dflt j (sparseErase k l) = sparseRead dflt j l := by
  induction l with
  | nil => rfl
  | cons x rest ih =>
    by_cases hx : x.1 = k
    · have : x.1 ≠ j := by omega
      simpa [sparseErase, hx, sparseRead, h.symm] using ih
    · by_cases hj : x.1 = j
      · simp [sparseErase, hj, h, sparseRead]
      · simpa [sparseErase, hx, sparseRead, hj] using ih

theorem sparseRead_insert_same (k : Nat) (v : α) (l : List (Nat × α)) (hl : ∀ x ∈ l, x.1 ≠ k) :
    sparseRead dflt k (sparseInsert k v l) = v := by
  induction l with
  | nil => simp [sparseInsert, sparseRead]
  | cons x rest ih =>
    have h1 : x.1 ≠ k := hl x (by simp)
    by_cases h : k < x.1
    · simp [sparseInsert, h, sparseRead]
    · simpa [sparseInsert, h, sparseRead, h1] using ih (fun y hy => hl y (by simp [hy]))

theorem sparseRead_insert_other {k j : Nat} (h : j ≠ k) (v : α) (l : List (Nat × α)) :
    sparseRead dflt j (sparseInsert k v l) = sparseRead dflt j l := by
  induction l with
  | nil => simp [sparseInsert, sparseRead, h.symm]
  | cons x rest ih =>
    by_cases hk : k < x.1
    · simp [sparseInsert, hk, sparseRead, h.symm]
    · simp [sparseInsert, hk, sparseRead, ih]

theorem mem_sparseErase {k : Nat} {x : Nat × α} {l : List (Nat × α)} : x ∈ sparseErase k l ↔ x ∈ l ∧ x.1 ≠ k := by
  simp [sparseErase]

theorem mem_sparseInsert {k : Nat} {v : α} {x : Nat × α} {l : List (Nat × α)} :
    x ∈ sparseInsert k v l ↔ x = (k, v) ∨ x ∈ l := by
  induction l with
  | nil => simp [sparseInsert]
  | cons y rest ih =>
    by_cases h : k < y.1
    · simp [sparseInsert, h]
    · simp [sparseInsert, h, ih]; tauto

/-- A read after a write to the same key gives the value written. -/
@[simp] theorem sparseRead_write_same [DecidableEq α] (k : Nat) (v : α) (l : List (Nat × α)) :
    sparseRead dflt k (sparseWrite dflt k v l) = v := by
  unfold sparseWrite
  split
  · next h => rw [sparseRead_erase_same, h]
  · exact sparseRead_insert_same dflt k v _ (fun x hx => (mem_sparseErase.1 hx).2)

/-- A write leaves every other key. -/
theorem sparseRead_write_other [DecidableEq α] {k j : Nat} (h : j ≠ k) (v : α) (l : List (Nat × α)) :
    sparseRead dflt j (sparseWrite dflt k v l) = sparseRead dflt j l := by
  unfold sparseWrite
  split
  · exact sparseRead_erase_other dflt h l
  · rw [sparseRead_insert_other dflt h, sparseRead_erase_other dflt h]

theorem SparseWf.erase {dflt : Nat → α} {l : List (Nat × α)} (h : SparseWf dflt l) (k : Nat) : SparseWf dflt (sparseErase k l) :=
  ⟨h.1.sublist List.filter_sublist, fun x hx => h.2 x (mem_sparseErase.1 hx).1⟩

theorem pairwise_sparseInsert (k : Nat) (v : α) (l : List (Nat × α)) (h : l.Pairwise (fun x y => x.1 < y.1))
    (hk : ∀ x ∈ l, x.1 ≠ k) : (sparseInsert k v l).Pairwise (fun x y => x.1 < y.1) := by
  induction l with
  | nil => simp [sparseInsert]
  | cons y rest ih =>
    rw [List.pairwise_cons] at h
    have hy : y.1 ≠ k := hk y (by simp)
    by_cases hlt : k < y.1
    · simp only [sparseInsert, hlt, if_true, List.pairwise_cons]
      refine ⟨?_, h⟩
      intro z hz
      rcases List.mem_cons.1 hz with rfl | hz
      · exact hlt
      · exact Nat.lt_trans hlt (h.1 z hz)
    · simp only [sparseInsert, hlt, if_false, List.pairwise_cons]
      refine ⟨?_, ih h.2 (fun x hx => hk x (by simp [hx]))⟩
      intro z hz
      rcases mem_sparseInsert.1 hz with rfl | hz
      · show y.1 < k; omega
      · exact h.1 z hz

/-- A write keeps the canonical form. -/
theorem SparseWf.write [DecidableEq α] {dflt : Nat → α} {l : List (Nat × α)} (h : SparseWf dflt l) (k : Nat) (v : α) :
    SparseWf dflt (sparseWrite dflt k v l) := by
  unfold sparseWrite
  split
  · exact h.erase k
  · next hv =>
    refine ⟨pairwise_sparseInsert k v _ (h.erase k).1 (fun x hx => (mem_sparseErase.1 hx).2), ?_⟩
    intro x hx
    rcases mem_sparseInsert.1 hx with rfl | hx
    · exact hv
    · exact (h.erase k).2 x hx

end Sparse

/-! ## Memory -/

@[simp] theorem Memory.read_write_same (m : Memory) (k : Nat) (v : Byte) : (m.write k v).read k = v :=
  sparseRead_write_same unlisted k v m

theorem Memory.read_write_other {k j : Nat} (h : j ≠ k) (m : Memory) (v : Byte) : (m.write k v).read j = m.read j :=
  sparseRead_write_other unlisted h v m

/-- Every byte write keeps the canonical form. -/
theorem Memory.write_wf {m : Memory} (h : m.wf) (k : Nat) (v : Byte) : (m.write k v).wf := SparseWf.write h k v

theorem Memory.writeList_wf {m : Memory} (h : m.wf) (k : Nat) (l : List Byte) : (Memory.writeList m k l).wf := by
  induction l generalizing m k with
  | nil => exact h
  | cons v rest ih => exact ih (Memory.write_wf h k v) _

/-- OAM DMA keeps the canonical form. -/
theorem dmaCopy_wf (s : State) (start : Word) (k n : Nat) {m : Memory} (h : m.wf) : (dmaCopy s start k n m).wf := by
  induction k generalizing n m with
  | zero => exact h
  | succ k ih => exact ih _ (Memory.write_wf h _ _)

/-- OAM DMA writes OAM's keys alone. -/
theorem dmaCopy_read (s : State) (start : Word) (k n j : Nat) (m : Memory) (hj : j < oamBase + n ∨ oamBase + n + k ≤ j) :
    (dmaCopy s start k n m).read j = m.read j := by
  induction k generalizing n m with
  | zero => rfl
  | succ k ih =>
    rw [dmaCopy, ih _ _ (by omega), Memory.read_write_other (by omega)]

theorem State.dmaMem_wf {s : State} (h : s.mem.wf) : s.dmaMem.wf := by
  unfold State.dmaMem
  split
  · exact h
  · exact dmaCopy_wf s _ _ _ h

/-- A tick changes no byte outside OAM, and none at all without OAM DMA (20_memory.md R96). -/
theorem State.dmaMem_read (s : State) (j : Nat) (hj : s.dma = .disabled ∨ j < oamBase ∨ oamBase + 160 ≤ j) :
    s.dmaMem.read j = s.mem.read j := by
  unfold State.dmaMem
  split
  · rfl
  · next start n rem hd =>
    by_cases hn : n ≤ 160
    · apply dmaCopy_read
      have := Nat.min_le_right ((rem + 4) / s.cfg.dmaTPerByte) (160 - n)
      rcases hj with h | h
      · simp [h] at hd
      · unfold dmaCount; omega
    · have : dmaCount s.cfg n rem = 0 := by
        unfold dmaCount
        rw [show 160 - n = 0 by omega]
        exact Nat.min_zero _
      rw [this]; rfl

/-- A placed byte keeps the canonical form. -/
theorem State.placeByte_wf {s : State} (h : s.mem.wf) (a : Word) (v : Byte) : (s.placeByte a v).mem.wf := by
  unfold State.placeByte
  split
  · exact Memory.write_wf h _ _
  · exact h

theorem State.placeBytes_wf {s : State} (h : s.mem.wf) (a : Word) (l : List Byte) : (s.placeBytes a l).mem.wf := by
  induction l generalizing s a with
  | nil => exact h
  | cons v rest ih => exact ih (State.placeByte_wf h a v) _

theorem State.withFetchWord_wf {s : State} (h : s.mem.wf) (nbits w : Nat) : (s.withFetchWord nbits w).mem.wf :=
  State.placeBytes_wf (s := s.readyToFetch) h _ _

/-- An image's cells lie in its range of keys. -/
theorem mem_imageCells {base : Nat} {l : List Byte} {x : Host.Cell} (h : x ∈ imageCells base l) :
    base ≤ x.1 ∧ x.1 < base + l.length ∧ x.2 ≠ unlisted x.1 := by
  induction l generalizing base with
  | nil => simp [imageCells] at h
  | cons b rest ih =>
    rw [imageCells] at h
    split at h
    · obtain ⟨h1, h2, h3⟩ := ih h
      exact ⟨by omega, by simp only [List.length_cons]; omega, h3⟩
    · next hb =>
      rcases List.mem_cons.1 h with rfl | h
      · exact ⟨Nat.le_refl _, by simp, hb⟩
      · obtain ⟨h1, h2, h3⟩ := ih h
        exact ⟨by omega, by simp only [List.length_cons]; omega, h3⟩

theorem imageCells_wf (base : Nat) (l : List Byte) : Memory.wf (imageCells base l) := by
  induction l generalizing base with
  | nil => exact ⟨List.Pairwise.nil, by intro x hx; cases hx⟩
  | cons b rest ih =>
    rw [imageCells]
    split
    · exact ih _
    · next hb =>
      refine ⟨?_, ?_⟩
      · rw [List.pairwise_cons]
        exact ⟨fun x hx => by have := (mem_imageCells hx).1; show base < x.1; omega, (ih _).1⟩
      · intro x hx
        rcases List.mem_cons.1 hx with rfl | hx
        · exact hb
        · exact (ih _).2 x hx

/-- The images a machine is built from are in canonical form. -/
theorem imageMem_wf (rom boot : Option (List Byte)) : (imageMem rom boot).wf := by
  refine ⟨?_, ?_⟩
  · refine List.pairwise_append.2 ⟨(imageCells_wf _ _).1, (imageCells_wf _ _).1, ?_⟩
    intro x hx y hy
    have h1 := (mem_imageCells hx).2.1
    have h2 := (mem_imageCells hy).1
    have h3 : ((boot.getD []).take 256).length ≤ 256 := List.length_take_le _ _
    simp only [bootBase, romBase] at h1 h2
    omega
  · intro x hx
    rcases List.mem_append.1 hx with hx | hx
    · exact (imageCells_wf _ _).2 x hx
    · exact (imageCells_wf _ _).2 x hx

/-- Memory after construction is in canonical form. -/
theorem construct_wf {base : Params} {given : Option Device} {rom boot : Option (List Byte)} {s : State}
    (h : construct base given rom boot = .ok s) : s.mem.wf := by
  unfold construct at h
  simp only at h
  split at h
  · cases h
  · injection h with h
    subst h
    split
    · exact imageMem_wf rom boot
    · exact imageMem_wf rom boot

/-- Memory at reset is in canonical form. -/
theorem reset_wf : State.reset.mem.wf := ⟨List.Pairwise.nil, by intro x hx; cases hx⟩

end Sys2Proof.Machine
end

