-- ==== Sys2Proof/Laws/State.lean ====
section
/-! SUPPORT. What each update of the state does to each field: every lemma is true by definition. -/

namespace Sys2Proof.Machine

variable (s : State)

/-! ### withCpu -/

@[simp] theorem State.withCpu_cfg (c : Cpu) : (s.withCpu c).cfg = s.cfg := rfl
@[simp] theorem State.withCpu_irq (c : Cpu) : (s.withCpu c).irq = s.irq := rfl
@[simp] theorem State.withCpu_timer (c : Cpu) : (s.withCpu c).timer = s.timer := rfl
@[simp] theorem State.withCpu_serial (c : Cpu) : (s.withCpu c).serial = s.serial := rfl
@[simp] theorem State.withCpu_joypad (c : Cpu) : (s.withCpu c).joypad = s.joypad := rfl
@[simp] theorem State.withCpu_dmaReg (c : Cpu) : (s.withCpu c).dmaReg = s.dmaReg := rfl
@[simp] theorem State.withCpu_dma (c : Cpu) : (s.withCpu c).dma = s.dma := rfl
@[simp] theorem State.withCpu_bus (c : Cpu) : (s.withCpu c).bus = s.bus := rfl
@[simp] theorem State.withCpu_ppu (c : Cpu) : (s.withCpu c).ppu = s.ppu := rfl
@[simp] theorem State.withCpu_apu (c : Cpu) : (s.withCpu c).apu = s.apu := rfl
@[simp] theorem State.withCpu_mem (c : Cpu) : (s.withCpu c).mem = s.mem := rfl
@[simp] theorem State.withCpu_elapsed (c : Cpu) : (s.withCpu c).elapsed = s.elapsed := rfl
@[simp] theorem State.withCpu_seed (c : Cpu) : (s.withCpu c).seed = s.seed := rfl

/-! ### setReg -/

@[simp] theorem State.setReg_cfg (r : R8) (v : Byte) : (s.setReg r v).cfg = s.cfg := rfl
@[simp] theorem State.setReg_irq (r : R8) (v : Byte) : (s.setReg r v).irq = s.irq := rfl
@[simp] theorem State.setReg_timer (r : R8) (v : Byte) : (s.setReg r v).timer = s.timer := rfl
@[simp] theorem State.setReg_serial (r : R8) (v : Byte) : (s.setReg r v).serial = s.serial := rfl
@[simp] theorem State.setReg_joypad (r : R8) (v : Byte) : (s.setReg r v).joypad = s.joypad := rfl
@[simp] theorem State.setReg_dmaReg (r : R8) (v : Byte) : (s.setReg r v).dmaReg = s.dmaReg := rfl
@[simp] theorem State.setReg_dma (r : R8) (v : Byte) : (s.setReg r v).dma = s.dma := rfl
@[simp] theorem State.setReg_bus (r : R8) (v : Byte) : (s.setReg r v).bus = s.bus := rfl
@[simp] theorem State.setReg_ppu (r : R8) (v : Byte) : (s.setReg r v).ppu = s.ppu := rfl
@[simp] theorem State.setReg_apu (r : R8) (v : Byte) : (s.setReg r v).apu = s.apu := rfl
@[simp] theorem State.setReg_mem (r : R8) (v : Byte) : (s.setReg r v).mem = s.mem := rfl
@[simp] theorem State.setReg_elapsed (r : R8) (v : Byte) : (s.setReg r v).elapsed = s.elapsed := rfl
@[simp] theorem State.setReg_seed (r : R8) (v : Byte) : (s.setReg r v).seed = s.seed := rfl
@[simp] theorem State.setReg_cpu_f (r : R8) (v : Byte) : (s.setReg r v).cpu.f = s.cpu.f := rfl
@[simp] theorem State.setReg_cpu_sp (r : R8) (v : Byte) : (s.setReg r v).cpu.sp = s.cpu.sp := rfl
@[simp] theorem State.setReg_cpu_pc (r : R8) (v : Byte) : (s.setReg r v).cpu.pc = s.cpu.pc := rfl
@[simp] theorem State.setReg_cpu_ime (r : R8) (v : Byte) : (s.setReg r v).cpu.ime = s.cpu.ime := rfl
@[simp] theorem State.setReg_cpu_run (r : R8) (v : Byte) : (s.setReg r v).cpu.run = s.cpu.run := rfl
@[simp] theorem State.setReg_cpu_haltBug (r : R8) (v : Byte) : (s.setReg r v).cpu.haltBug = s.cpu.haltBug := rfl
@[simp] theorem State.setReg_cpu_opcodeAddr (r : R8) (v : Byte) : (s.setReg r v).cpu.opcodeAddr = s.cpu.opcodeAddr := rfl

/-! ### setSp -/

@[simp] theorem State.setSp_cfg (v : Word) : (s.setSp v).cfg = s.cfg := rfl
@[simp] theorem State.setSp_irq (v : Word) : (s.setSp v).irq = s.irq := rfl
@[simp] theorem State.setSp_timer (v : Word) : (s.setSp v).timer = s.timer := rfl
@[simp] theorem State.setSp_serial (v : Word) : (s.setSp v).serial = s.serial := rfl
@[simp] theorem State.setSp_joypad (v : Word) : (s.setSp v).joypad = s.joypad := rfl
@[simp] theorem State.setSp_dmaReg (v : Word) : (s.setSp v).dmaReg = s.dmaReg := rfl
@[simp] theorem State.setSp_dma (v : Word) : (s.setSp v).dma = s.dma := rfl
@[simp] theorem State.setSp_bus (v : Word) : (s.setSp v).bus = s.bus := rfl
@[simp] theorem State.setSp_ppu (v : Word) : (s.setSp v).ppu = s.ppu := rfl
@[simp] theorem State.setSp_apu (v : Word) : (s.setSp v).apu = s.apu := rfl
@[simp] theorem State.setSp_mem (v : Word) : (s.setSp v).mem = s.mem := rfl
@[simp] theorem State.setSp_elapsed (v : Word) : (s.setSp v).elapsed = s.elapsed := rfl
@[simp] theorem State.setSp_seed (v : Word) : (s.setSp v).seed = s.seed := rfl
@[simp] theorem State.setSp_cpu_a (v : Word) : (s.setSp v).cpu.a = s.cpu.a := rfl
@[simp] theorem State.setSp_cpu_f (v : Word) : (s.setSp v).cpu.f = s.cpu.f := rfl
@[simp] theorem State.setSp_cpu_b (v : Word) : (s.setSp v).cpu.b = s.cpu.b := rfl
@[simp] theorem State.setSp_cpu_c (v : Word) : (s.setSp v).cpu.c = s.cpu.c := rfl
@[simp] theorem State.setSp_cpu_d (v : Word) : (s.setSp v).cpu.d = s.cpu.d := rfl
@[simp] theorem State.setSp_cpu_e (v : Word) : (s.setSp v).cpu.e = s.cpu.e := rfl
@[simp] theorem State.setSp_cpu_h (v : Word) : (s.setSp v).cpu.h = s.cpu.h := rfl
@[simp] theorem State.setSp_cpu_l (v : Word) : (s.setSp v).cpu.l = s.cpu.l := rfl
@[simp] theorem State.setSp_cpu_pc (v : Word) : (s.setSp v).cpu.pc = s.cpu.pc := rfl
@[simp] theorem State.setSp_cpu_ime (v : Word) : (s.setSp v).cpu.ime = s.cpu.ime := rfl
@[simp] theorem State.setSp_cpu_run (v : Word) : (s.setSp v).cpu.run = s.cpu.run := rfl
@[simp] theorem State.setSp_cpu_haltBug (v : Word) : (s.setSp v).cpu.haltBug = s.cpu.haltBug := rfl
@[simp] theorem State.setSp_cpu_opcodeAddr (v : Word) : (s.setSp v).cpu.opcodeAddr = s.cpu.opcodeAddr := rfl

/-! ### setPc -/

@[simp] theorem State.setPc_cfg (v : Word) : (s.setPc v).cfg = s.cfg := rfl
@[simp] theorem State.setPc_irq (v : Word) : (s.setPc v).irq = s.irq := rfl
@[simp] theorem State.setPc_timer (v : Word) : (s.setPc v).timer = s.timer := rfl
@[simp] theorem State.setPc_serial (v : Word) : (s.setPc v).serial = s.serial := rfl
@[simp] theorem State.setPc_joypad (v : Word) : (s.setPc v).joypad = s.joypad := rfl
@[simp] theorem State.setPc_dmaReg (v : Word) : (s.setPc v).dmaReg = s.dmaReg := rfl
@[simp] theorem State.setPc_dma (v : Word) : (s.setPc v).dma = s.dma := rfl
@[simp] theorem State.setPc_bus (v : Word) : (s.setPc v).bus = s.bus := rfl
@[simp] theorem State.setPc_ppu (v : Word) : (s.setPc v).ppu = s.ppu := rfl
@[simp] theorem State.setPc_apu (v : Word) : (s.setPc v).apu = s.apu := rfl
@[simp] theorem State.setPc_mem (v : Word) : (s.setPc v).mem = s.mem := rfl
@[simp] theorem State.setPc_elapsed (v : Word) : (s.setPc v).elapsed = s.elapsed := rfl
@[simp] theorem State.setPc_seed (v : Word) : (s.setPc v).seed = s.seed := rfl
@[simp] theorem State.setPc_cpu_a (v : Word) : (s.setPc v).cpu.a = s.cpu.a := rfl
@[simp] theorem State.setPc_cpu_f (v : Word) : (s.setPc v).cpu.f = s.cpu.f := rfl
@[simp] theorem State.setPc_cpu_b (v : Word) : (s.setPc v).cpu.b = s.cpu.b := rfl
@[simp] theorem State.setPc_cpu_c (v : Word) : (s.setPc v).cpu.c = s.cpu.c := rfl
@[simp] theorem State.setPc_cpu_d (v : Word) : (s.setPc v).cpu.d = s.cpu.d := rfl
@[simp] theorem State.setPc_cpu_e (v : Word) : (s.setPc v).cpu.e = s.cpu.e := rfl
@[simp] theorem State.setPc_cpu_h (v : Word) : (s.setPc v).cpu.h = s.cpu.h := rfl
@[simp] theorem State.setPc_cpu_l (v : Word) : (s.setPc v).cpu.l = s.cpu.l := rfl
@[simp] theorem State.setPc_cpu_sp (v : Word) : (s.setPc v).cpu.sp = s.cpu.sp := rfl
@[simp] theorem State.setPc_cpu_ime (v : Word) : (s.setPc v).cpu.ime = s.cpu.ime := rfl
@[simp] theorem State.setPc_cpu_run (v : Word) : (s.setPc v).cpu.run = s.cpu.run := rfl
@[simp] theorem State.setPc_cpu_haltBug (v : Word) : (s.setPc v).cpu.haltBug = s.cpu.haltBug := rfl
@[simp] theorem State.setPc_cpu_opcodeAddr (v : Word) : (s.setPc v).cpu.opcodeAddr = s.cpu.opcodeAddr := rfl
@[simp] theorem State.setPc_cpu_unwritten (v : Word) : (s.setPc v).cpu.unwritten = s.cpu.unwritten := rfl

/-! ### setF -/

@[simp] theorem State.setF_cfg (v : Byte) : (s.setF v).cfg = s.cfg := rfl
@[simp] theorem State.setF_irq (v : Byte) : (s.setF v).irq = s.irq := rfl
@[simp] theorem State.setF_timer (v : Byte) : (s.setF v).timer = s.timer := rfl
@[simp] theorem State.setF_serial (v : Byte) : (s.setF v).serial = s.serial := rfl
@[simp] theorem State.setF_joypad (v : Byte) : (s.setF v).joypad = s.joypad := rfl
@[simp] theorem State.setF_dmaReg (v : Byte) : (s.setF v).dmaReg = s.dmaReg := rfl
@[simp] theorem State.setF_dma (v : Byte) : (s.setF v).dma = s.dma := rfl
@[simp] theorem State.setF_bus (v : Byte) : (s.setF v).bus = s.bus := rfl
@[simp] theorem State.setF_ppu (v : Byte) : (s.setF v).ppu = s.ppu := rfl
@[simp] theorem State.setF_apu (v : Byte) : (s.setF v).apu = s.apu := rfl
@[simp] theorem State.setF_mem (v : Byte) : (s.setF v).mem = s.mem := rfl
@[simp] theorem State.setF_elapsed (v : Byte) : (s.setF v).elapsed = s.elapsed := rfl
@[simp] theorem State.setF_seed (v : Byte) : (s.setF v).seed = s.seed := rfl
@[simp] theorem State.setF_cpu_a (v : Byte) : (s.setF v).cpu.a = s.cpu.a := rfl
@[simp] theorem State.setF_cpu_b (v : Byte) : (s.setF v).cpu.b = s.cpu.b := rfl
@[simp] theorem State.setF_cpu_c (v : Byte) : (s.setF v).cpu.c = s.cpu.c := rfl
@[simp] theorem State.setF_cpu_d (v : Byte) : (s.setF v).cpu.d = s.cpu.d := rfl
@[simp] theorem State.setF_cpu_e (v : Byte) : (s.setF v).cpu.e = s.cpu.e := rfl
@[simp] theorem State.setF_cpu_h (v : Byte) : (s.setF v).cpu.h = s.cpu.h := rfl
@[simp] theorem State.setF_cpu_l (v : Byte) : (s.setF v).cpu.l = s.cpu.l := rfl
@[simp] theorem State.setF_cpu_sp (v : Byte) : (s.setF v).cpu.sp = s.cpu.sp := rfl
@[simp] theorem State.setF_cpu_pc (v : Byte) : (s.setF v).cpu.pc = s.cpu.pc := rfl
@[simp] theorem State.setF_cpu_ime (v : Byte) : (s.setF v).cpu.ime = s.cpu.ime := rfl
@[simp] theorem State.setF_cpu_run (v : Byte) : (s.setF v).cpu.run = s.cpu.run := rfl
@[simp] theorem State.setF_cpu_haltBug (v : Byte) : (s.setF v).cpu.haltBug = s.cpu.haltBug := rfl
@[simp] theorem State.setF_cpu_opcodeAddr (v : Byte) : (s.setF v).cpu.opcodeAddr = s.cpu.opcodeAddr := rfl

/-! ### setRun -/

@[simp] theorem State.setRun_cfg (m : RunMode) : (s.setRun m).cfg = s.cfg := rfl
@[simp] theorem State.setRun_irq (m : RunMode) : (s.setRun m).irq = s.irq := rfl
@[simp] theorem State.setRun_timer (m : RunMode) : (s.setRun m).timer = s.timer := rfl
@[simp] theorem State.setRun_serial (m : RunMode) : (s.setRun m).serial = s.serial := rfl
@[simp] theorem State.setRun_joypad (m : RunMode) : (s.setRun m).joypad = s.joypad := rfl
@[simp] theorem State.setRun_dmaReg (m : RunMode) : (s.setRun m).dmaReg = s.dmaReg := rfl
@[simp] theorem State.setRun_dma (m : RunMode) : (s.setRun m).dma = s.dma := rfl
@[simp] theorem State.setRun_bus (m : RunMode) : (s.setRun m).bus = s.bus := rfl
@[simp] theorem State.setRun_ppu (m : RunMode) : (s.setRun m).ppu = s.ppu := rfl
@[simp] theorem State.setRun_apu (m : RunMode) : (s.setRun m).apu = s.apu := rfl
@[simp] theorem State.setRun_mem (m : RunMode) : (s.setRun m).mem = s.mem := rfl
@[simp] theorem State.setRun_elapsed (m : RunMode) : (s.setRun m).elapsed = s.elapsed := rfl
@[simp] theorem State.setRun_seed (m : RunMode) : (s.setRun m).seed = s.seed := rfl
@[simp] theorem State.setRun_cpu_a (m : RunMode) : (s.setRun m).cpu.a = s.cpu.a := rfl
@[simp] theorem State.setRun_cpu_f (m : RunMode) : (s.setRun m).cpu.f = s.cpu.f := rfl
@[simp] theorem State.setRun_cpu_b (m : RunMode) : (s.setRun m).cpu.b = s.cpu.b := rfl
@[simp] theorem State.setRun_cpu_c (m : RunMode) : (s.setRun m).cpu.c = s.cpu.c := rfl
@[simp] theorem State.setRun_cpu_d (m : RunMode) : (s.setRun m).cpu.d = s.cpu.d := rfl
@[simp] theorem State.setRun_cpu_e (m : RunMode) : (s.setRun m).cpu.e = s.cpu.e := rfl
@[simp] theorem State.setRun_cpu_h (m : RunMode) : (s.setRun m).cpu.h = s.cpu.h := rfl
@[simp] theorem State.setRun_cpu_l (m : RunMode) : (s.setRun m).cpu.l = s.cpu.l := rfl
@[simp] theorem State.setRun_cpu_sp (m : RunMode) : (s.setRun m).cpu.sp = s.cpu.sp := rfl
@[simp] theorem State.setRun_cpu_pc (m : RunMode) : (s.setRun m).cpu.pc = s.cpu.pc := rfl
@[simp] theorem State.setRun_cpu_ime (m : RunMode) : (s.setRun m).cpu.ime = s.cpu.ime := rfl
@[simp] theorem State.setRun_cpu_haltBug (m : RunMode) : (s.setRun m).cpu.haltBug = s.cpu.haltBug := rfl
@[simp] theorem State.setRun_cpu_opcodeAddr (m : RunMode) : (s.setRun m).cpu.opcodeAddr = s.cpu.opcodeAddr := rfl
@[simp] theorem State.setRun_cpu_unwritten (m : RunMode) : (s.setRun m).cpu.unwritten = s.cpu.unwritten := rfl

/-! ### setIme -/

@[simp] theorem State.setIme_cfg (m : Ime) : (s.setIme m).cfg = s.cfg := rfl
@[simp] theorem State.setIme_irq (m : Ime) : (s.setIme m).irq = s.irq := rfl
@[simp] theorem State.setIme_timer (m : Ime) : (s.setIme m).timer = s.timer := rfl
@[simp] theorem State.setIme_serial (m : Ime) : (s.setIme m).serial = s.serial := rfl
@[simp] theorem State.setIme_joypad (m : Ime) : (s.setIme m).joypad = s.joypad := rfl
@[simp] theorem State.setIme_dmaReg (m : Ime) : (s.setIme m).dmaReg = s.dmaReg := rfl
@[simp] theorem State.setIme_dma (m : Ime) : (s.setIme m).dma = s.dma := rfl
@[simp] theorem State.setIme_bus (m : Ime) : (s.setIme m).bus = s.bus := rfl
@[simp] theorem State.setIme_ppu (m : Ime) : (s.setIme m).ppu = s.ppu := rfl
@[simp] theorem State.setIme_apu (m : Ime) : (s.setIme m).apu = s.apu := rfl
@[simp] theorem State.setIme_mem (m : Ime) : (s.setIme m).mem = s.mem := rfl
@[simp] theorem State.setIme_elapsed (m : Ime) : (s.setIme m).elapsed = s.elapsed := rfl
@[simp] theorem State.setIme_seed (m : Ime) : (s.setIme m).seed = s.seed := rfl
@[simp] theorem State.setIme_cpu_a (m : Ime) : (s.setIme m).cpu.a = s.cpu.a := rfl
@[simp] theorem State.setIme_cpu_f (m : Ime) : (s.setIme m).cpu.f = s.cpu.f := rfl
@[simp] theorem State.setIme_cpu_b (m : Ime) : (s.setIme m).cpu.b = s.cpu.b := rfl
@[simp] theorem State.setIme_cpu_c (m : Ime) : (s.setIme m).cpu.c = s.cpu.c := rfl
@[simp] theorem State.setIme_cpu_d (m : Ime) : (s.setIme m).cpu.d = s.cpu.d := rfl
@[simp] theorem State.setIme_cpu_e (m : Ime) : (s.setIme m).cpu.e = s.cpu.e := rfl
@[simp] theorem State.setIme_cpu_h (m : Ime) : (s.setIme m).cpu.h = s.cpu.h := rfl
@[simp] theorem State.setIme_cpu_l (m : Ime) : (s.setIme m).cpu.l = s.cpu.l := rfl
@[simp] theorem State.setIme_cpu_sp (m : Ime) : (s.setIme m).cpu.sp = s.cpu.sp := rfl
@[simp] theorem State.setIme_cpu_pc (m : Ime) : (s.setIme m).cpu.pc = s.cpu.pc := rfl
@[simp] theorem State.setIme_cpu_run (m : Ime) : (s.setIme m).cpu.run = s.cpu.run := rfl
@[simp] theorem State.setIme_cpu_haltBug (m : Ime) : (s.setIme m).cpu.haltBug = s.cpu.haltBug := rfl
@[simp] theorem State.setIme_cpu_opcodeAddr (m : Ime) : (s.setIme m).cpu.opcodeAddr = s.cpu.opcodeAddr := rfl
@[simp] theorem State.setIme_cpu_unwritten (m : Ime) : (s.setIme m).cpu.unwritten = s.cpu.unwritten := rfl

@[simp] theorem State.withCpu_cpu (c : Cpu) : (s.withCpu c).cpu = c := rfl
@[simp] theorem State.withCpu_withCpu (c d : Cpu) : (s.withCpu c).withCpu d = s.withCpu d := rfl
@[simp] theorem State.withCpu_self : s.withCpu s.cpu = s := rfl
@[simp] theorem State.setSp_cpu_sp (v : Word) : (s.setSp v).cpu.sp = v := rfl
@[simp] theorem State.setPc_cpu_pc (v : Word) : (s.setPc v).cpu.pc = v := rfl
@[simp] theorem State.setF_cpu_f (v : Byte) : (s.setF v).cpu.f = v &&& 0xF0 := rfl
@[simp] theorem State.setRun_cpu_run (m : RunMode) : (s.setRun m).cpu.run = m := rfl
@[simp] theorem State.setIme_cpu_ime (m : Ime) : (s.setIme m).cpu.ime = m := rfl

/-- A register write sets that register. -/
@[simp] theorem State.setReg_reg_same (r : R8) (v : Byte) : (s.setReg r v).reg r = v := by cases r <;> rfl

/-- A register write leaves the other registers. -/
theorem State.setReg_reg_other {r q : R8} (h : q ≠ r) (v : Byte) : (s.setReg r v).reg q = s.reg q := by
  cases r <;> cases q <;> first | rfl | exact absurd rfl h

@[simp] theorem State.setSp_reg (v : Word) (q : R8) : (s.setSp v).reg q = s.reg q := by cases q <;> rfl
@[simp] theorem State.setPc_reg (v : Word) (q : R8) : (s.setPc v).reg q = s.reg q := by cases q <;> rfl
@[simp] theorem State.setF_reg (v : Byte) (q : R8) : (s.setF v).reg q = s.reg q := by cases q <;> rfl
@[simp] theorem State.setRun_reg (m : RunMode) (q : R8) : (s.setRun m).reg q = s.reg q := by cases q <;> rfl
@[simp] theorem State.setIme_reg (m : Ime) (q : R8) : (s.setIme m).reg q = s.reg q := by cases q <;> rfl

/-! ### tick: the devices' fields alone change -/

@[simp] theorem State.tick_cfg : s.tick.cfg = s.cfg := rfl
@[simp] theorem State.tick_cpu : s.tick.cpu = s.cpu := rfl
@[simp] theorem State.tick_bus : s.tick.bus = s.bus := rfl
@[simp] theorem State.tick_dmaReg : s.tick.dmaReg = s.dmaReg := rfl
@[simp] theorem State.tick_seed : s.tick.seed = s.seed + 1 := rfl
@[simp] theorem State.tick_elapsed : s.tick.elapsed = s.elapsed + s.normalT := rfl
@[simp] theorem State.tick_mem : s.tick.mem = s.dmaMem := rfl
@[simp] theorem State.tick_dma : s.tick.dma = s.dma.advance s.cfg := rfl
@[simp] theorem State.tick_pressed : s.tick.joypad.pressed = s.joypad.pressed := rfl
@[simp] theorem State.tick_select : s.tick.joypad.select = s.joypad.select := rfl
@[simp] theorem State.tick_reg (q : R8) : s.tick.reg q = s.reg q := by cases q <;> rfl
@[simp] theorem State.tick_pair (p : R16) : s.tick.pair p = s.pair p := by cases p <;> rfl
@[simp] theorem State.tick_hl : s.tick.hl = s.hl := rfl
@[simp] theorem State.tick_key (a : Word) : s.tick.key a = s.key a := rfl

/-! ### writeByte: no CPU register, no parameter -/

theorem State.writeRouted_cfg (a : Word) (v : Byte) : (s.writeRouted a v).cfg = s.cfg := by
  unfold State.writeRouted State.writeIo State.ifCgb
  repeat' split
  all_goals rfl

theorem State.writeRouted_cpu (a : Word) (v : Byte) : (s.writeRouted a v).cpu = s.cpu := by
  unfold State.writeRouted State.writeIo State.ifCgb
  repeat' split
  all_goals rfl

@[simp] theorem State.writeByte_cfg (a : Word) (v : Byte) : (s.writeByte a v).cfg = s.cfg := by
  unfold State.writeByte; split
  · rfl
  · exact s.writeRouted_cfg a v

@[simp] theorem State.writeByte_cpu (a : Word) (v : Byte) : (s.writeByte a v).cpu = s.cpu := by
  unfold State.writeByte; split
  · rfl
  · exact s.writeRouted_cpu a v

end Sys2Proof.Machine
end

