-- ==== Sys2Proof/Laws/Bus.lean ====
section
/-! SUPPORT. What a CPU write can do, and that the devices do not see the CPU's registers. -/

namespace Sys2Proof.Machine

/-! ## A CPU write -/

/-- A write to an address changes memory only at the cell the address selects. -/
theorem State.writeRouted_mem (s : State) (a : Word) (v : Byte) :
    (s.writeRouted a v).mem = s.mem ∨
      ∃ k, s.key a = some k ∧ 0x8000 ≤ a ∧ (s.writeRouted a v).mem = s.mem.write k (s.storedValue a v) := by
  unfold State.writeRouted
  split
  · exact .inl rfl
  · next h =>
    split
    · next k hk => exact .inr ⟨k, hk, BitVec.not_lt.1 h, rfl⟩
    · left
      split
      · rfl
      · split
        · unfold State.writeIo State.ifCgb
          repeat' split
          all_goals rfl
        · rfl

theorem State.writeByte_mem (s : State) (a : Word) (v : Byte) :
    (s.writeByte a v).mem = s.mem ∨
      ∃ k, s.key a = some k ∧ 0x8000 ≤ a ∧ (s.writeByte a v).mem = s.mem.write k (s.storedValue a v) := by
  unfold State.writeByte
  split
  · exact .inl rfl
  · exact s.writeRouted_mem a v

/-- A write keeps the canonical form. -/
theorem State.writeByte_wf {s : State} (h : s.mem.wf) (a : Word) (v : Byte) : (s.writeByte a v).mem.wf := by
  rcases s.writeByte_mem a v with e | ⟨k, -, -, e⟩
  · rw [e]; exact h
  · rw [e]; exact Memory.write_wf h _ _

/-- A write leaves every cell but the one its address selects. -/
theorem State.writeByte_read_other {s : State} {a : Word} {v : Byte} {j : Nat} (hj : s.key a ≠ some j) :
    (s.writeByte a v).mem.read j = s.mem.read j := by
  rcases s.writeByte_mem a v with e | ⟨k, hk, -, e⟩
  · rw [e]
  · rw [e, Memory.read_write_other]
    rintro rfl
    exact hj hk

theorem Cart.ramIndex_lt (c : Cart) (b : Bus) (a : Nat) (h : c.ramExists = true) (hs : c.ramSize ≤ 0x20000) :
    c.ramIndex b a < 0x20000 := by
  have h0 : 0 < c.ramSize := by
    simp only [Cart.ramExists, Bool.and_eq_true, bne_iff_ne, ne_eq] at h
    omega
  unfold Cart.ramIndex
  split
  · exact Nat.lt_of_lt_of_le (Nat.mod_lt _ h0) hs
  · exact Nat.lt_of_lt_of_le (Nat.mod_lt _ h0) hs
  · exact Nat.lt_of_lt_of_le (Nat.mod_lt _ h0) hs
  · omega
  · exact Nat.lt_of_lt_of_le (Nat.mod_lt _ h0) hs

/-- The WRAM bank is one of eight. -/
theorem State.wramBank_le (s : State) : s.wramBank ≤ 7 := by
  unfold State.wramBank
  split
  · have := s.bus.svbk.isLt; omega
  · omega

theorem State.wramKey_lt (s : State) (a : Nat) (h1 : 0xC000 ≤ a) (h2 : a < 0xE000) :
    wramBase ≤ s.wramKey a ∧ s.wramKey a < wramBase + 0x8000 := by
  have := s.wramBank_le
  unfold State.wramKey
  split <;> omega

/-- An address from 0x8000 up never selects an image's byte. -/
theorem State.key_lt_bootBase {s : State} (hc : s.cfg.ramFits) {a : Word} (ha : 0x8000 ≤ a) {k : Nat}
    (hk : s.key a = some k) : k < bootBase := by
  have ha' : 0x8000 ≤ a.toNat := by simpa [BitVec.le_def] using ha
  have hlt := a.isLt
  have hvb : s.vramBank ≤ 1 := by
    unfold State.vramBank
    split
    · have := s.bus.vramBank.isLt; omega
    · omega
  unfold State.key at hk
  simp only at hk
  rw [if_neg (by omega)] at hk
  split at hk
  · injection hk with hk; subst hk; unfold bootBase vramBase; omega
  split at hk
  · cases hcart : s.cfg.cart with
    | none => simp [hcart] at hk
    | some c =>
      simp only [hcart, Option.bind_some, Cart.ramKey] at hk
      split at hk
      · next he =>
        injection hk with hk; subst hk
        have := Cart.ramIndex_lt c s.bus a.toNat (by simp_all) (hc c hcart)
        unfold bootBase cartRamBase; omega
      · cases hk
  split at hk
  · injection hk with hk; subst hk
    have := s.wramKey_lt a.toNat (by omega) (by omega)
    unfold bootBase; unfold wramBase at this; omega
  split at hk
  · injection hk with hk; subst hk
    have := s.wramKey_lt (a.toNat - 0x2000) (by omega) (by omega)
    unfold bootBase; unfold wramBase at this; omega
  split at hk
  · injection hk with hk; subst hk; unfold bootBase oamBase; omega
  split at hk
  · cases hk
  split at hk
  · injection hk with hk; subst hk; unfold bootBase hramBase; omega
  · cases hk

/-- A write leaves every byte of the boot ROM and of the cartridge's ROM. -/
theorem State.writeByte_images {s : State} (hc : s.cfg.ramFits) (a : Word) (v : Byte) {j : Nat} (hj : bootBase ≤ j) :
    (s.writeByte a v).mem.read j = s.mem.read j := by
  rcases s.writeByte_mem a v with e | ⟨k, hk, ha, e⟩
  · rw [e]
  · rw [e, Memory.read_write_other]
    have := State.key_lt_bootBase hc ha hk
    omega

/-- A tick leaves every byte of the boot ROM and of the cartridge's ROM. -/
theorem State.tick_images (s : State) {j : Nat} (hj : bootBase ≤ j) : s.tick.mem.read j = s.mem.read j :=
  s.dmaMem_read j (.inr (.inr (by unfold bootBase at hj; unfold oamBase; omega)))

/-! ## The devices do not see the CPU's registers -/

theorem dmaCopy_withCpu (s : State) (c : Cpu) (start : Word) (k n : Nat) (m : Memory) :
    dmaCopy (s.withCpu c) start k n m = dmaCopy s start k n m := by
  induction k generalizing n m with
  | zero => rfl
  | succ k ih => rw [dmaCopy, dmaCopy, ih]; rfl

theorem State.dmaMem_withCpu (s : State) (c : Cpu) : (s.withCpu c).dmaMem = s.dmaMem := by
  unfold State.dmaMem
  simp only [dmaCopy_withCpu]
  rfl

/-- A tick goes the same whatever the CPU's registers hold. -/
theorem State.tick_withCpu (s : State) (c : Cpu) : (s.withCpu c).tick = s.tick.withCpu c := by
  have h := s.dmaMem_withCpu c
  have h2 : (s.withCpu c).tickDma = s.tickDma.withCpu c := by
    unfold State.tickDma
    rw [h]
    rfl
  unfold State.tick
  rw [h2]
  rfl

/-- A write goes the same whatever the CPU's registers hold. -/
theorem State.writeByte_withCpu (s : State) (c : Cpu) (a : Word) (v : Byte) :
    (s.withCpu c).writeByte a v = (s.writeByte a v).withCpu c := by
  unfold State.withCpu
  have hl : ({ s with cpu := c } : State).locked a = s.locked a := rfl
  unfold State.writeByte
  rw [hl]
  split
  · rfl
  · unfold State.writeRouted
    have hk : ({ s with cpu := c } : State).key a = s.key a := rfl
    rw [hk]
    split
    · rfl
    · cases s.key a with
      | some k => rfl
      | none =>
        simp only
        split
        · rfl
        · split
          · unfold State.writeIo State.ifCgb
            simp only
            repeat' split
            all_goals rfl
          · rfl

/-! ## What no write changes, and what a write keeps -/

/-- A write of an I/O register, case by case: which of the CPU-visible parts of State it can reach. -/
theorem State.writeByte_pressed (s : State) (a : Word) (v : Byte) : (s.writeByte a v).joypad.pressed = s.joypad.pressed := by
  unfold State.writeByte State.writeRouted State.writeIo State.ifCgb
  repeat' split
  all_goals rfl

theorem State.writeByte_doubleSpeed (s : State) (a : Word) (v : Byte) :
    (s.writeByte a v).bus.doubleSpeed = s.bus.doubleSpeed := by
  unfold State.writeByte State.writeRouted State.writeIo State.ifCgb
  repeat' split
  all_goals first
    | rfl
    | (unfold Bus.controllerWrite; repeat' split
       all_goals rfl)

/-- No write maps the boot ROM again (20_memory.md R79). -/
theorem State.writeByte_bootMapped (s : State) (a : Word) (v : Byte)
    (h : (s.writeByte a v).bus.bootMapped = true) : s.bus.bootMapped = true := by
  revert h
  unfold State.writeByte State.writeRouted State.writeIo State.ifCgb
  repeat' split
  all_goals first
    | exact id
    | (unfold Bus.controllerWrite; repeat' split
       all_goals exact id)
    | (intro h; simp only [Bus.writeBoot, Bool.and_eq_true] at h; exact h.1)

theorem mbc1Bank_ne_zero (v : Byte) : mbc1Bank v ≠ 0 := by
  unfold mbc1Bank
  split
  · decide
  · assumption

theorem Mbc1.write_bank1 {m : Mbc1} (h : m.bank1 ≠ 0) (a : Nat) (v : Byte) : (m.write a v).bank1 ≠ 0 := by
  unfold Mbc1.write
  repeat' split
  all_goals first | exact h | exact mbc1Bank_ne_zero v

/-- No write makes MBC1's bank register 0 (20_memory.md R88, R89). -/
theorem State.writeByte_bank1 {s : State} (h : s.bus.mbc1.bank1 ≠ 0) (a : Word) (v : Byte) :
    (s.writeByte a v).bus.mbc1.bank1 ≠ 0 := by
  unfold State.writeByte State.writeRouted State.writeIo State.ifCgb
  repeat' split
  all_goals first
    | exact h
    | (unfold Bus.controllerWrite; repeat' split
       all_goals first | exact h | exact Mbc1.write_bank1 h _ _)

end Sys2Proof.Machine
end

