-- ==== Sys2Proof/Laws/Ops.lean ====
section
/-! SUPPORT. Everything each operation of Ops and Operands can do: when it goes on, and what holds of a state it answers. -/

namespace Sys2Proof.Machine

/-! ## Going on -/

theorem State.reading_written {s : State} (h : s.allWritten) (rs : List RegName) (k : Result) : s.reading rs k = k := by
  unfold State.allWritten at h
  unfold State.reading
  rw [show rs.find? (fun r => s.cpu.unwritten.contains r) = none by rw [h]; simp [List.find?_eq_none]]

theorem State.busRead_granted {s : State} {a : Word} (h : s.readRefusal a = none) (k : Byte → Result) :
    s.busRead a k = k (s.readByte a) := by
  unfold State.busRead; rw [h]

theorem State.busWrite_granted {s : State} {a : Word} {v : Byte} (h : s.writeRefusal a v = none) (k : State → Result) :
    s.busWrite a v k = k (s.writeByte a v) := by
  unfold State.busWrite; rw [h]

theorem State.readNext_granted {s : State} {a : Word} (h : s.tick.readRefusal a = none) (k : Byte → State → Result) :
    s.readNext a k = k (s.tick.readByte a) s.tick := State.busRead_granted h _

theorem State.writeNext_granted {s : State} {a : Word} {v : Byte} (h : s.tick.writeRefusal a v = none) (k : State → Result) :
    s.writeNext a v k = k (s.tick.writeByte a v) := State.busWrite_granted h _

@[simp] theorem State.tick_allWritten (s : State) : s.tick.allWritten ↔ s.allWritten := Iff.rfl

/-! ## Stopping: a fault or a refusal of a step is always one of `State.faults` or `State.refuses` (60_exceptions.md R360) -/

/-- The outcome is a next state, or a stop that says its cause and leaves the state it stopped in. -/
inductive Stops : Result → Prop where
  | next (s : State) : Stops (.next s)
  | faults (s : State) (c : FaultCause) : Stops (s.faults c)
  | refuses (s : State) (c : RefusalCause) : Stops (s.refuses c)

/-- Stopping again in a state that has stopped changes nothing. -/
@[simp] theorem State.setRun_setRun (s : State) (m n : RunMode) : (s.setRun m).setRun n = s.setRun n := rfl

@[simp] theorem State.faults_setRun (s : State) (m : RunMode) (c : FaultCause) : (s.setRun m).faults c = s.faults c := by
  cases c <;> rfl

@[simp] theorem State.refuses_setRun (s : State) (m : RunMode) (c : RefusalCause) : (s.setRun m).refuses c = s.refuses c := by
  cases c <;> rfl

/-- The state a fault leaves. -/
theorem State.faults_left {s : State} {c : FaultCause} {f : Fault} (h : s.faults c = .fault f) : f.left = s.setRun (.faulted c) := by
  cases c <;> (cases h; rfl)

/-- The state a refusal leaves. -/
theorem State.refuses_left {s : State} {c : RefusalCause} {r : Refusal} (h : s.refuses c = .refused r) :
    r.left = some (s.setRun (.refused c)) := by
  cases c <;> (cases h; rfl)

theorem stops_reading {s : State} {rs : List RegName} {k : Result} (h : Stops k) : Stops (s.reading rs k) := by
  unfold State.reading
  split
  · exact .faults _ _
  · exact h

theorem stops_busRead {s : State} {a : Word} {k : Byte → Result} (h : ∀ v, Stops (k v)) : Stops (s.busRead a k) := by
  unfold State.busRead
  split
  · exact .refuses _ _
  · exact h _

theorem stops_busWrite {s : State} {a : Word} {v : Byte} {k : State → Result} (h : ∀ t, Stops (k t)) : Stops (s.busWrite a v k) := by
  unfold State.busWrite
  split
  · exact .refuses _ _
  · exact h _

theorem stops_readNext {s : State} {a : Word} {k : Byte → State → Result} (h : ∀ v t, Stops (k v t)) : Stops (s.readNext a k) :=
  stops_busRead fun v => h v _

theorem stops_writeNext {s : State} {a : Word} {v : Byte} {k : State → Result} (h : ∀ t, Stops (k t)) : Stops (s.writeNext a v k) :=
  stops_busWrite h

theorem stops_finish (s : State) : Stops (finish s) := .next _

theorem stops_ite {c : Prop} [Decidable c] {x y : Result} (hx : Stops x) (hy : Stops y) : Stops (if c then x else y) := by
  split
  · exact hx
  · exact hy

theorem stops_promote {r : Result} (h : Stops r) (before : Ime) : Stops (promote before r) := by
  cases h with
  | next s => exact .next _
  | faults s c => exact .faults s c
  | refuses s c => exact .refuses s c

/-! ## What holds of a state an operation answers -/

theorem ifNext_next {P : State → Prop} {s : State} : IfNext (.next s) P ↔ P s :=
  ⟨fun h => h s rfl, fun h t e => by cases e; exact h⟩

theorem ifNext_fault {P : State → Prop} (f : Fault) : IfNext (.fault f) P := fun _ e => by cases e

theorem ifNext_refused {P : State → Prop} (r : Refusal) : IfNext (.refused r) P := fun _ e => by cases e

theorem IfNext.mono {P Q : State → Prop} {r : Result} (h : IfNext r P) (hpq : ∀ s, P s → Q s) : IfNext r Q :=
  fun s e => hpq s (h s e)

theorem ifNext_reading {P : State → Prop} {s : State} {rs : List RegName} {k : Result} (h : IfNext k P) :
    IfNext (s.reading rs k) P := by
  unfold State.reading
  split
  · exact ifNext_fault _
  · exact h

theorem ifNext_busRead {P : State → Prop} {s : State} {a : Word} {k : Byte → Result} (h : IfNext (k (s.readByte a)) P) :
    IfNext (s.busRead a k) P := by
  unfold State.busRead
  split
  · exact ifNext_refused _
  · exact h

theorem ifNext_busWrite {P : State → Prop} {s : State} {a : Word} {v : Byte} {k : State → Result}
    (h : s.writeRefusal a v = none → IfNext (k (s.writeByte a v)) P) : IfNext (s.busWrite a v k) P := by
  unfold State.busWrite
  split
  · exact ifNext_refused _
  · next e => exact h e

theorem ifNext_readNext {P : State → Prop} {s : State} {a : Word} {k : Byte → State → Result}
    (h : IfNext (k (s.tick.readByte a) s.tick) P) : IfNext (s.readNext a k) P := ifNext_busRead h

theorem ifNext_writeNext {P : State → Prop} {s : State} {a : Word} {v : Byte} {k : State → Result}
    (h : s.tick.writeRefusal a v = none → IfNext (k (s.tick.writeByte a v)) P) : IfNext (s.writeNext a v k) P :=
  ifNext_busWrite h

theorem ifNext_ite {P : State → Prop} {c : Prop} [Decidable c] {x y : Result} (hx : IfNext x P) (hy : IfNext y P) :
    IfNext (if c then x else y) P := by
  split
  · exact hx
  · exact hy

end Sys2Proof.Machine
end

