-- ==== Sys2Proof/Laws/Exec.lean ====
section
/-! SUPPORT. An instruction's meaning is its form's: one theorem over all instructions, so that a claim about
an instruction rule is one about every instruction of that rule. -/

namespace Sys2Proof

open Machine

/-- The meaning of an instruction rule with its operands. -/
def Form.run : Form → State → Result
  | .ldRegReg dst src => Machine.ldRegReg dst src
  | .ldRegImm dst n => Machine.ldRegImm dst n
  | .ldRegMem dst => Machine.ldRegMem dst
  | .ldMemReg src => Machine.ldMemReg src
  | .ldMemImm n => Machine.ldMemImm n
  | .ldAPtr p => Machine.ldAPtr p
  | .ldPtrA p => Machine.ldPtrA p
  | .ldAAbs nn => Machine.ldAAbs nn
  | .ldAbsA nn => Machine.ldAbsA nn
  | .ldhAC => Machine.ldhAC
  | .ldhCA => Machine.ldhCA
  | .ldhAImm n => Machine.ldhAImm n
  | .ldhImmA n => Machine.ldhImmA n
  | .ldAHlInc => Machine.ldAHlInc
  | .ldAHlDec => Machine.ldAHlDec
  | .ldHlIncA => Machine.ldHlIncA
  | .ldHlDecA => Machine.ldHlDecA
  | .ldPairImm rr nn => Machine.ldPairImm rr nn
  | .ldAbsSp nn => Machine.ldAbsSp nn
  | .ldSpHl => Machine.ldSpHl
  | .push rr => Machine.push rr
  | .pop rr => Machine.pop rr
  | .aluReg op src => Machine.aluReg op src
  | .aluMem op => Machine.aluMem op
  | .aluImm op n => Machine.aluImm op n
  | .incReg dst => Machine.incReg dst
  | .incMem => Machine.incMem
  | .decReg dst => Machine.decReg dst
  | .decMem => Machine.decMem
  | .daa => Machine.daa
  | .cpl => Machine.cpl
  | .scf => Machine.scf
  | .ccf => Machine.ccf
  | .incPair rr => Machine.incPair rr
  | .decPair rr => Machine.decPair rr
  | .addHl rr => Machine.addHl rr
  | .addSp e => Machine.addSp e
  | .ldHlSp e => Machine.ldHlSp e
  | .rotA k => Machine.rotA k
  | .rotReg k r => Machine.rotReg k r
  | .rotMem k => Machine.rotMem k
  | .bitReg b r => Machine.bitReg b r
  | .bitMem b => Machine.bitMem b
  | .resReg b r => Machine.resReg b r
  | .resMem b => Machine.resMem b
  | .setReg b r => Machine.setReg b r
  | .setMem b => Machine.setMem b
  | .jp nn => Machine.jp nn
  | .jpCc cc nn => Machine.jpCc cc nn
  | .jpHl => Machine.jpHl
  | .jr e => Machine.jr e
  | .jrCc cc e => Machine.jrCc cc e
  | .call nn => Machine.call nn
  | .callCc cc nn => Machine.callCc cc nn
  | .ret => Machine.ret
  | .retCc cc => Machine.retCc cc
  | .reti => Machine.reti
  | .rst t => Machine.rst t
  | .nop => Machine.nop
  | .stop n => Machine.stop n
  | .halt => Machine.halt
  | .di => Machine.di
  | .ei => Machine.ei
  | .illegal op => Machine.illegal op
  | .cbPage => Machine.prefixed

namespace Machine

/-- Executing an instruction is running its form. -/
theorem exec_form (i : Instr) (s : State) : exec i s = i.form.run s := by
  cases i <;> rfl

/-- The same, for a form given by an equation. -/
theorem exec_of_form {i : Instr} {f : Form} (h : i.form = f) (s : State) : exec i s = f.run s := by
  rw [exec_form, h]

end Machine

end Sys2Proof
end

