-- ==== Sys2Proof/Laws/Kept.lean ====
section
/-! SUPPORT. What a step can do, said once: it is made of device ticks, granted writes, changes of the CPU's own
registers, the acknowledgement of an interrupt and the speed switch. A property these keep, every step keeps. -/

namespace Sys2Proof.Machine

/-- How the CPU's registers change: F keeps its value or gets one with a zero low nibble, and no written register becomes unwritten. -/
def CpuStep (c c' : Cpu) : Prop := (c'.f = c.f ∨ c'.f &&& 0x0F = 0) ∧ ∀ r ∈ c'.unwritten, r ∈ c.unwritten

/-- A property that a device tick, a granted write and every other update of a step keep. -/
structure Kept (P : State → Prop) : Prop where
  tick : ∀ s, P s → P s.tick
  write : ∀ s a v, s.writeRefusal a v = none → P s → P (s.writeByte a v)
  cpu : ∀ (s : State) (c : Cpu), CpuStep s.cpu c → P s → P (s.withCpu c)
  acknowledge : ∀ (s : State) (i : Interrupt), P s → P { s with irq := s.irq.acknowledge i }
  speed : ∀ (s : State), P s →
    P ({ s with bus := { s.bus with doubleSpeed := !s.bus.doubleSpeed, keyArmed := false } } : State).resetDiv

theorem CpuStep.refl (c : Cpu) : CpuStep c c := ⟨.inl rfl, fun _ h => h⟩

theorem markWritten_subset {rs u : List RegName} : ∀ r ∈ markWritten rs u, r ∈ u := fun _ h => (List.mem_filter.1 h).1

variable {P : State → Prop}

section

variable (K : Kept P)
include K

theorem Kept.setReg {s : State} (h : P s) (r : R8) (v : Byte) : P (s.setReg r v) :=
  K.cpu s _ ⟨.inl rfl, markWritten_subset⟩ h

theorem Kept.setSp {s : State} (h : P s) (v : Word) : P (s.setSp v) := K.cpu s _ ⟨.inl rfl, markWritten_subset⟩ h

theorem Kept.setPc {s : State} (h : P s) (v : Word) : P (s.setPc v) := K.cpu s _ ⟨.inl rfl, fun _ h => h⟩ h

theorem Kept.setF {s : State} (h : P s) (v : Byte) : P (s.setF v) :=
  K.cpu s _ ⟨.inr (by show (v &&& 0xF0) &&& 0x0F = 0; rw [BitVec.and_assoc]; simp), markWritten_subset⟩ h

theorem Kept.setRun {s : State} (h : P s) (m : RunMode) : P (s.setRun m) := K.cpu s _ ⟨.inl rfl, fun _ h => h⟩ h

theorem Kept.setIme {s : State} (h : P s) (m : Ime) : P (s.setIme m) := K.cpu s _ ⟨.inl rfl, fun _ h => h⟩ h

theorem Kept.setPair {s : State} (h : P s) (rr : R16) (v : Word) : P (s.setPair rr v) := by
  cases rr
  · exact K.setReg (K.setReg h _ _) _ _
  · exact K.setReg (K.setReg h _ _) _ _
  · exact K.setReg (K.setReg h _ _) _ _
  · exact K.setSp h v

theorem Kept.setStkPair {s : State} (h : P s) (rr : R16Stk) (v : Word) : P (s.setStkPair rr v) := by
  cases rr
  · exact K.setPair h .bc v
  · exact K.setPair h .de v
  · exact K.setPair h .hl v
  · exact K.setF (K.setReg h _ _) _

theorem Kept.opcodeFetched {s : State} (h : P s) : P s.opcodeFetched := by
  unfold State.opcodeFetched
  split
  · exact K.cpu s _ ⟨.inl rfl, fun _ h => h⟩ h
  · exact K.cpu s _ ⟨.inl rfl, fun _ h => h⟩ h

theorem Kept.finish {s : State} (h : P s) : IfNext (finish s) P := ifNext_next.2 (K.tick s h)

theorem Kept.readNext {s : State} (h : P s) {a : Word} {k : Byte → State → Result}
    (hk : ∀ v s', P s' → IfNext (k v s') P) : IfNext (s.readNext a k) P := ifNext_readNext (hk _ _ (K.tick s h))

theorem Kept.writeNext {s : State} (h : P s) {a : Word} {v : Byte} {k : State → Result}
    (hk : ∀ s', P s' → IfNext (k s') P) : IfNext (s.writeNext a v k) P :=
  ifNext_writeNext (fun hr => hk _ (K.write _ _ _ hr (K.tick s h)))

theorem Kept.fetchNext {s : State} (h : P s) {k : Byte → State → Result}
    (hk : ∀ v s', P s' → IfNext (k v s') P) : IfNext (s.fetchNext k) P :=
  K.readNext h (fun v _ h' => hk v _ (K.setPc h' _))

theorem Kept.pushWord {s : State} (h : P s) {v : Word} {k : State → Result}
    (hk : ∀ s', P s' → IfNext (k s') P) : IfNext (s.pushWord v k) P :=
  ifNext_reading (K.writeNext (K.setSp h _) (fun _ h1 => K.writeNext (K.setSp h1 _) hk))

theorem Kept.popWord {s : State} (h : P s) {k : Word → State → Result}
    (hk : ∀ v s', P s' → IfNext (k v s') P) : IfNext (s.popWord k) P :=
  ifNext_reading (K.readNext h (fun _ _ h1 => K.readNext (K.setSp h1 _) (fun _ _ h2 => hk _ _ (K.setSp h2 _))))

theorem Kept.hlOperand {s : State} (h : P s) {k : Byte → State → Result}
    (hk : ∀ v s', P s' → IfNext (k v s') P) : IfNext (s.hlOperand k) P := ifNext_reading (K.readNext h hk)

theorem Kept.storeHl {s : State} (h : P s) (v : Byte) : IfNext (s.storeHl v) P :=
  ifNext_reading (K.writeNext h (fun _ h1 => K.finish h1))

theorem Kept.modifyHl {s : State} (h : P s) {rs : List RegName} {f : Byte → State → Byte × State}
    (hf : ∀ v s', P s' → P (f v s').2) : IfNext (s.modifyHl rs f) P :=
  K.hlOperand h (fun v s' h1 => ifNext_reading (K.writeNext (hf v s' h1) (fun _ h2 => K.finish h2)))

omit K in
theorem ifNext_ifCond {s : State} {cc : Cond} {x y : Result} (hx : IfNext x P) (hy : IfNext y P) : IfNext (s.ifCond cc x y) P :=
  ifNext_reading (ifNext_ite hx hy)

theorem Kept.bitFlags {s : State} (h : P s) (b : BitVec 3) (o : Byte) : P (s.bitFlags b o) := K.setF h _

theorem Kept.call {s : State} (h : P s) (nn : Word) : IfNext (call nn s) P :=
  K.pushWord (K.tick s h) (fun _ h1 => K.finish (K.setPc h1 _))

theorem Kept.ret {s : State} (h : P s) : IfNext (ret s) P :=
  K.popWord h (fun _ _ h1 => K.finish (K.setPc (K.tick _ h1) _))

/-- A rotate or shift of the CB page keeps it. -/
theorem Kept.rotMem {s : State} (h : P s) (k : Rot) : IfNext (rotMem k s) P := K.modifyHl h (fun _ _ h1 => K.setF h1 _)

theorem Kept.rotReg {s : State} (h : P s) (k : Rot) (r : R8) : IfNext (rotReg k r s) P :=
  ifNext_reading (K.finish (K.setF (K.setReg h _ _) _))

theorem Kept.bitReg {s : State} (h : P s) (b : BitVec 3) (r : R8) : IfNext (bitReg b r s) P :=
  ifNext_reading (K.finish (K.setF h _))

theorem Kept.bitMem {s : State} (h : P s) (b : BitVec 3) : IfNext (bitMem b s) P :=
  K.hlOperand h (fun _ _ h1 => K.finish (K.setF h1 _))

theorem Kept.resReg {s : State} (h : P s) (b : BitVec 3) (r : R8) : IfNext (resReg b r s) P :=
  ifNext_reading (K.finish (K.setReg h _ _))

theorem Kept.resMem {s : State} (h : P s) (b : BitVec 3) : IfNext (resMem b s) P := K.modifyHl h (fun _ _ h1 => h1)

theorem Kept.setBitReg {s : State} (h : P s) (b : BitVec 3) (r : R8) : IfNext (Machine.setReg b r s) P :=
  ifNext_reading (K.finish (K.setReg h _ _))

theorem Kept.setBitMem {s : State} (h : P s) (b : BitVec 3) : IfNext (setMem b s) P := K.modifyHl h (fun _ _ h1 => h1)

theorem Kept.cbPage {s : State} (h : P s) (op : Byte) : IfNext (cbPage op s) P := by
  unfold Machine.cbPage
  simp only
  split
  · exact K.rotReg h _ _
  · exact K.rotMem h _
  · exact K.bitReg h _ _
  · exact K.bitMem h _
  · exact K.resReg h _ _
  · exact K.resMem h _
  · exact K.setBitReg h _ _
  · exact K.setBitMem h _

/-! ### The meanings -/

theorem Kept.mLdRegReg {s : State} (h : P s) (dst src : R8) : IfNext (Machine.ldRegReg dst src s) P := by
  unfold Machine.ldRegReg
  exact ifNext_reading (K.finish (K.setReg h _ _))

theorem Kept.mLdRegImm {s : State} (h : P s) (dst : R8) (n : Byte) : IfNext (Machine.ldRegImm dst n s) P := by
  unfold Machine.ldRegImm
  exact K.finish (K.setReg h _ _)

theorem Kept.mLdRegMem {s : State} (h : P s) (dst : R8) : IfNext (Machine.ldRegMem dst s) P := by
  unfold Machine.ldRegMem
  exact K.hlOperand h (fun _ _ h1 => K.finish (K.setReg h1 _ _))

theorem Kept.mLdMemReg {s : State} (h : P s) (src : R8) : IfNext (Machine.ldMemReg src s) P := by
  unfold Machine.ldMemReg
  exact ifNext_reading (K.writeNext h (fun _ h1 => K.finish h1))

theorem Kept.mLdMemImm {s : State} (h : P s) (n : Byte) : IfNext (Machine.ldMemImm n s) P := by
  unfold Machine.ldMemImm
  exact K.storeHl h _

theorem Kept.mLdAPtr {s : State} (h : P s) (p : Ptr) : IfNext (Machine.ldAPtr p s) P := by
  unfold Machine.ldAPtr
  exact ifNext_reading (K.readNext h (fun _ _ h1 => K.finish (K.setReg h1 _ _)))

theorem Kept.mLdPtrA {s : State} (h : P s) (p : Ptr) : IfNext (Machine.ldPtrA p s) P := by
  unfold Machine.ldPtrA
  exact ifNext_reading (K.writeNext h (fun _ h1 => K.finish h1))

theorem Kept.mLdAAbs {s : State} (h : P s) (nn : Word) : IfNext (Machine.ldAAbs nn s) P := by
  unfold Machine.ldAAbs
  exact K.readNext h (fun _ _ h1 => K.finish (K.setReg h1 _ _))

theorem Kept.mLdAbsA {s : State} (h : P s) (nn : Word) : IfNext (Machine.ldAbsA nn s) P := by
  unfold Machine.ldAbsA
  exact ifNext_reading (K.writeNext h (fun _ h1 => K.finish h1))

theorem Kept.mLdhAC {s : State} (h : P s) : IfNext (Machine.ldhAC s) P := by
  unfold Machine.ldhAC
  exact ifNext_reading (K.readNext h (fun _ _ h1 => K.finish (K.setReg h1 _ _)))

theorem Kept.mLdhCA {s : State} (h : P s) : IfNext (Machine.ldhCA s) P := by
  unfold Machine.ldhCA
  exact ifNext_reading (K.writeNext h (fun _ h1 => K.finish h1))

theorem Kept.mLdhAImm {s : State} (h : P s) (n : Byte) : IfNext (Machine.ldhAImm n s) P := by
  unfold Machine.ldhAImm
  exact K.readNext h (fun _ _ h1 => K.finish (K.setReg h1 _ _))

theorem Kept.mLdhImmA {s : State} (h : P s) (n : Byte) : IfNext (Machine.ldhImmA n s) P := by
  unfold Machine.ldhImmA
  exact ifNext_reading (K.writeNext h (fun _ h1 => K.finish h1))

theorem Kept.mLdAHlInc {s : State} (h : P s) : IfNext (Machine.ldAHlInc s) P := by
  unfold Machine.ldAHlInc
  exact K.hlOperand h (fun _ _ h1 => K.finish (K.setPair (K.setReg h1 _ _) _ _))

theorem Kept.mLdAHlDec {s : State} (h : P s) : IfNext (Machine.ldAHlDec s) P := by
  unfold Machine.ldAHlDec
  exact K.hlOperand h (fun _ _ h1 => K.finish (K.setPair (K.setReg h1 _ _) _ _))

theorem Kept.mLdHlIncA {s : State} (h : P s) : IfNext (Machine.ldHlIncA s) P := by
  unfold Machine.ldHlIncA
  exact ifNext_reading (K.writeNext h (fun _ h1 => K.finish (K.setPair h1 _ _)))

theorem Kept.mLdHlDecA {s : State} (h : P s) : IfNext (Machine.ldHlDecA s) P := by
  unfold Machine.ldHlDecA
  exact ifNext_reading (K.writeNext h (fun _ h1 => K.finish (K.setPair h1 _ _)))

theorem Kept.mLdPairImm {s : State} (h : P s) (rr : R16) (nn : Word) : IfNext (Machine.ldPairImm rr nn s) P := by
  unfold Machine.ldPairImm
  exact K.finish (K.setPair h _ _)

theorem Kept.mLdAbsSp {s : State} (h : P s) (nn : Word) : IfNext (Machine.ldAbsSp nn s) P := by
  unfold Machine.ldAbsSp
  exact ifNext_reading (K.writeNext h (fun _ h1 => K.writeNext h1 (fun _ h2 => K.finish h2)))

theorem Kept.mLdSpHl {s : State} (h : P s) : IfNext (Machine.ldSpHl s) P := by
  unfold Machine.ldSpHl
  exact ifNext_reading (K.finish (K.setSp (K.tick _ h) _))

theorem Kept.mPush {s : State} (h : P s) (rr : R16Stk) : IfNext (Machine.push rr s) P := by
  unfold Machine.push
  exact ifNext_reading (K.pushWord (K.tick _ h) (fun _ h1 => K.finish h1))

theorem Kept.mPop {s : State} (h : P s) (rr : R16Stk) : IfNext (Machine.pop rr s) P := by
  unfold Machine.pop
  exact K.popWord h (fun _ _ h1 => K.finish (K.setStkPair h1 _ _))

theorem Kept.mAluReg {s : State} (h : P s) (op : Alu) (src : R8) : IfNext (Machine.aluReg op src s) P := by
  unfold Machine.aluReg
  exact ifNext_reading (K.finish (K.setF (K.setReg h _ _) _))

theorem Kept.mAluMem {s : State} (h : P s) (op : Alu) : IfNext (Machine.aluMem op s) P := by
  unfold Machine.aluMem
  exact K.hlOperand h (fun _ _ h1 => ifNext_reading (K.finish (K.setF (K.setReg h1 _ _) _)))

theorem Kept.mAluImm {s : State} (h : P s) (op : Alu) (n : Byte) : IfNext (Machine.aluImm op n s) P := by
  unfold Machine.aluImm
  exact ifNext_reading (K.finish (K.setF (K.setReg h _ _) _))

theorem Kept.mIncReg {s : State} (h : P s) (dst : R8) : IfNext (Machine.incReg dst s) P := by
  unfold Machine.incReg
  exact ifNext_reading (K.finish (K.setF (K.setReg h _ _) _))

theorem Kept.mIncMem {s : State} (h : P s) : IfNext (Machine.incMem s) P := by
  unfold Machine.incMem
  exact K.modifyHl h (fun _ _ h1 => K.setF h1 _)

theorem Kept.mDecReg {s : State} (h : P s) (dst : R8) : IfNext (Machine.decReg dst s) P := by
  unfold Machine.decReg
  exact ifNext_reading (K.finish (K.setF (K.setReg h _ _) _))

theorem Kept.mDecMem {s : State} (h : P s) : IfNext (Machine.decMem s) P := by
  unfold Machine.decMem
  exact K.modifyHl h (fun _ _ h1 => K.setF h1 _)

theorem Kept.mDaa {s : State} (h : P s) : IfNext (Machine.daa s) P := by
  unfold Machine.daa
  exact ifNext_reading (K.finish (K.setF (K.setReg h _ _) _))

theorem Kept.mCpl {s : State} (h : P s) : IfNext (Machine.cpl s) P := by
  unfold Machine.cpl
  exact ifNext_reading (K.finish (K.setF (K.setReg h _ _) _))

theorem Kept.mScf {s : State} (h : P s) : IfNext (Machine.scf s) P := by
  unfold Machine.scf
  exact K.finish (K.setF h _)

theorem Kept.mCcf {s : State} (h : P s) : IfNext (Machine.ccf s) P := by
  unfold Machine.ccf
  exact ifNext_reading (K.finish (K.setF h _))

theorem Kept.mIncPair {s : State} (h : P s) (rr : R16) : IfNext (Machine.incPair rr s) P := by
  unfold Machine.incPair
  exact ifNext_reading (K.finish (K.setPair (K.tick _ h) _ _))

theorem Kept.mDecPair {s : State} (h : P s) (rr : R16) : IfNext (Machine.decPair rr s) P := by
  unfold Machine.decPair
  exact ifNext_reading (K.finish (K.setPair (K.tick _ h) _ _))

theorem Kept.mAddHl {s : State} (h : P s) (rr : R16) : IfNext (Machine.addHl rr s) P := by
  unfold Machine.addHl
  exact ifNext_reading (K.finish (K.setF (K.setPair (K.tick _ h) _ _) _))

theorem Kept.mAddSp {s : State} (h : P s) (e : Byte) : IfNext (Machine.addSp e s) P := by
  unfold Machine.addSp
  exact ifNext_reading (K.finish (K.setF (K.setSp (K.tick _ (K.tick _ h)) _) _))

theorem Kept.mLdHlSp {s : State} (h : P s) (e : Byte) : IfNext (Machine.ldHlSp e s) P := by
  unfold Machine.ldHlSp
  exact ifNext_reading (K.finish (K.setF (K.setPair (K.tick _ h) _ _) _))

theorem Kept.mRotA {s : State} (h : P s) (k : AccRot) : IfNext (Machine.rotA k s) P := by
  unfold Machine.rotA
  exact ifNext_reading (K.finish (K.setF (K.setReg h _ _) _))

theorem Kept.mJp {s : State} (h : P s) (nn : Word) : IfNext (Machine.jp nn s) P := by
  unfold Machine.jp
  exact K.finish (K.setPc (K.tick _ h) _)

theorem Kept.mJpCc {s : State} (h : P s) (cc : Cond) (nn : Word) : IfNext (Machine.jpCc cc nn s) P := by
  unfold Machine.jpCc
  exact ifNext_ifCond (K.finish (K.setPc (K.tick _ h) _)) (K.finish h)

theorem Kept.mJpHl {s : State} (h : P s) : IfNext (Machine.jpHl s) P := by
  unfold Machine.jpHl
  exact ifNext_reading (K.finish (K.setPc h _))

theorem Kept.mJr {s : State} (h : P s) (e : Byte) : IfNext (Machine.jr e s) P := by
  unfold Machine.jr
  exact K.finish (K.setPc (K.tick _ h) _)

theorem Kept.mJrCc {s : State} (h : P s) (cc : Cond) (e : Byte) : IfNext (Machine.jrCc cc e s) P := by
  unfold Machine.jrCc
  exact ifNext_ifCond (K.finish (K.setPc (K.tick _ h) _)) (K.finish h)

theorem Kept.mCallCc {s : State} (h : P s) (cc : Cond) (nn : Word) : IfNext (Machine.callCc cc nn s) P := by
  unfold Machine.callCc
  exact ifNext_ifCond (K.call h _) (K.finish h)

theorem Kept.mRetCc {s : State} (h : P s) (cc : Cond) : IfNext (Machine.retCc cc s) P := by
  unfold Machine.retCc
  exact ifNext_ifCond (K.ret (K.tick _ h)) (K.finish (K.tick _ h))

theorem Kept.mReti {s : State} (h : P s) : IfNext (Machine.reti s) P := by
  unfold Machine.reti
  exact K.popWord h (fun _ _ h1 => K.finish (K.cpu _ _ ⟨.inl rfl, fun _ h => h⟩ (K.tick _ h1)))

theorem Kept.mRst {s : State} (h : P s) (t : BitVec 3) : IfNext (Machine.rst t s) P := by
  unfold Machine.rst
  exact K.pushWord (K.tick _ h) (fun _ h1 => K.finish (K.setPc h1 _))

theorem Kept.mNop {s : State} (h : P s) : IfNext (Machine.nop s) P := by
  unfold Machine.nop
  exact K.finish h

theorem Kept.mStop {s : State} (h : P s) (n : Byte) : IfNext (Machine.stop n s) P := by
  unfold Machine.stop
  exact ifNext_ite (K.finish (K.setRun (K.speed _ h) _)) (ifNext_refused _)

theorem Kept.mHalt {s : State} (h : P s) : IfNext (Machine.halt s) P := by
  unfold Machine.halt
  refine ifNext_ite (K.finish (K.cpu _ _ ⟨.inl rfl, fun _ h => h⟩ h)) (ifNext_ite (ifNext_ite ?_ (K.finish h)) (K.finish (K.setRun h _)))
  exact K.finish (K.cpu _ _ ⟨.inl rfl, fun _ h => h⟩ h)

theorem Kept.mDi {s : State} (h : P s) : IfNext (Machine.di s) P := by
  unfold Machine.di
  exact K.finish (K.setIme h _)

theorem Kept.mEi {s : State} (h : P s) : IfNext (Machine.ei s) P := by
  unfold Machine.ei
  refine K.finish ?_
  split
  · exact K.setIme h _
  · exact h

theorem Kept.mCbPage {s : State} (h : P s) : IfNext (Machine.prefixed s) P := by
  unfold Machine.prefixed
  exact K.fetchNext h (fun _ _ h1 => K.cbPage h1 _)

/-- Every form keeps it. -/
theorem Kept.form {s : State} (h : P s) (f : Form) : IfNext (f.run s) P := by
  cases f with
  | ldRegReg dst src => exact K.mLdRegReg h dst src
  | ldRegImm dst n => exact K.mLdRegImm h dst n
  | ldRegMem dst => exact K.mLdRegMem h dst
  | ldMemReg src => exact K.mLdMemReg h src
  | ldMemImm n => exact K.mLdMemImm h n
  | ldAPtr p => exact K.mLdAPtr h p
  | ldPtrA p => exact K.mLdPtrA h p
  | ldAAbs nn => exact K.mLdAAbs h nn
  | ldAbsA nn => exact K.mLdAbsA h nn
  | ldhAC => exact K.mLdhAC h
  | ldhCA => exact K.mLdhCA h
  | ldhAImm n => exact K.mLdhAImm h n
  | ldhImmA n => exact K.mLdhImmA h n
  | ldAHlInc => exact K.mLdAHlInc h
  | ldAHlDec => exact K.mLdAHlDec h
  | ldHlIncA => exact K.mLdHlIncA h
  | ldHlDecA => exact K.mLdHlDecA h
  | ldPairImm rr nn => exact K.mLdPairImm h rr nn
  | ldAbsSp nn => exact K.mLdAbsSp h nn
  | ldSpHl => exact K.mLdSpHl h
  | push rr => exact K.mPush h rr
  | pop rr => exact K.mPop h rr
  | aluReg op src => exact K.mAluReg h op src
  | aluMem op => exact K.mAluMem h op
  | aluImm op n => exact K.mAluImm h op n
  | incReg dst => exact K.mIncReg h dst
  | incMem => exact K.mIncMem h
  | decReg dst => exact K.mDecReg h dst
  | decMem => exact K.mDecMem h
  | daa => exact K.mDaa h
  | cpl => exact K.mCpl h
  | scf => exact K.mScf h
  | ccf => exact K.mCcf h
  | incPair rr => exact K.mIncPair h rr
  | decPair rr => exact K.mDecPair h rr
  | addHl rr => exact K.mAddHl h rr
  | addSp e => exact K.mAddSp h e
  | ldHlSp e => exact K.mLdHlSp h e
  | rotA k => exact K.mRotA h k
  | rotReg k r => exact K.rotReg h k r
  | rotMem k => exact K.rotMem h k
  | bitReg b r => exact K.bitReg h b r
  | bitMem b => exact K.bitMem h b
  | resReg b r => exact K.resReg h b r
  | resMem b => exact K.resMem h b
  | setReg b r => exact K.setBitReg h b r
  | setMem b => exact K.setBitMem h b
  | jp nn => exact K.mJp h nn
  | jpCc cc nn => exact K.mJpCc h cc nn
  | jpHl => exact K.mJpHl h
  | jr e => exact K.mJr h e
  | jrCc cc e => exact K.mJrCc h cc e
  | call nn => exact K.call h nn
  | callCc cc nn => exact K.mCallCc h cc nn
  | ret => exact K.ret h
  | retCc cc => exact K.mRetCc h cc
  | reti => exact K.mReti h
  | rst t => exact K.mRst h t
  | nop => exact K.mNop h
  | stop n => exact K.mStop h n
  | halt => exact K.mHalt h
  | di => exact K.mDi h
  | ei => exact K.mEi h
  | illegal op => exact ifNext_fault _
  | cbPage => exact K.mCbPage h

/-- Every instruction keeps it. -/
theorem Kept.exec {s : State} (h : P s) (i : Instr) : IfNext (exec i s) P := by
  rw [exec_form]; exact K.form h _

theorem Kept.fetchInstr {s : State} (h : P s) {k : Instr → State → Result}
    (hk : ∀ i s', P s' → IfNext (k i s') P) : IfNext (s.fetchInstr k) P := by
  unfold State.fetchInstr State.fetchOpcode
  refine ifNext_busRead ?_
  have h1 := K.opcodeFetched h
  unfold State.fetchRest
  refine ifNext_ite (K.fetchNext h1 (fun _ _ h2 => hk _ _ h2)) (ifNext_ite (hk _ _ h1)
    (ifNext_ite (K.fetchNext h1 (fun _ _ h2 => hk _ _ h2)) ?_))
  exact K.fetchNext h1 (fun _ _ h2 => K.fetchNext h2 (fun _ _ h3 => hk _ _ h3))

theorem Kept.promote {r : Result} (h : IfNext r P) (before : Ime) : IfNext (promote before r) P := by
  cases r with
  | next s =>
    refine ifNext_next.2 ?_
    unfold State.promoteIme
    split
    · exact K.cpu _ _ ⟨.inl rfl, fun _ h => h⟩ (ifNext_next.1 h)
    · exact ifNext_next.1 h
  | fault f => exact ifNext_fault _
  | refused r => exact ifNext_refused _

theorem Kept.dispatchInterrupt {s : State} (h : P s) : IfNext s.dispatchInterrupt P := by
  have ha : ∀ (s' : State) (i : Interrupt), P s' → P (s'.acknowledge i) := fun s' i h1 =>
    K.cpu { s' with irq := s'.irq.acknowledge i } { s'.cpu with ime := .disabled } ⟨.inl rfl, fun _ h => h⟩ (K.acknowledge s' i h1)
  exact ifNext_reading (ifNext_ite (ifNext_refused _)
    (K.pushWord (K.tick _ h) (fun s' h1 => K.finish (K.setPc (K.tick _ (ha s' _ h1)) _))))

theorem Kept.idleHalted {s : State} (h : P s) : P s.idleHalted := by
  unfold State.idleHalted
  split
  · exact K.setRun (K.tick _ h) _
  · exact K.tick _ h

/-- Every step keeps it. -/
theorem Kept.step {s : State} (h : P s) : IfNext (step s) P := by
  unfold Machine.step
  split
  · exact ifNext_next.2 (K.idleHalted h)
  · exact ifNext_next.2 (K.setRun (K.tick _ h) _)
  · exact ifNext_fault _
  · exact ifNext_refused _
  · exact ifNext_ite (K.dispatchInterrupt h) (K.fetchInstr h (fun i s' h' => K.promote (K.exec h' i) _))

end

end Sys2Proof.Machine
end

