-- ==== Sys2Proof/Laws/Stops.lean ====
section
/-! SUPPORT. How a step stops, said once: every fault and every refusal of a step is one of `State.faults` and `State.refuses`,
so it says its cause and leaves the state of its M-cycle, Faulted or Refused. -/

namespace Sys2Proof.Machine

/-- Every form stops, if it stops, with its cause and the state it stopped in. -/
theorem form_stops (f : Form) (s : State) : Stops (f.run s) := by
  cases f <;>
    (simp only [Form.run, ldRegReg, ldRegImm, ldRegMem, ldMemReg, ldMemImm, ldAPtr, ldPtrA, ldAAbs, ldAbsA, ldhAC, ldhCA, ldhAImm, ldhImmA,
      ldAHlInc, ldAHlDec, ldHlIncA, ldHlDecA, ldPairImm, ldAbsSp, ldSpHl, push, pop, aluReg, aluMem, aluImm, incReg, incMem, decReg, decMem,
      daa, cpl, scf, ccf, incPair, decPair, addHl, addSp, ldHlSp, rotA, rotReg, rotMem, bitReg, bitMem, resReg, resMem, Machine.setReg, setMem,
      jp, jpCc, jpHl, jr, jrCc, call, callCc, ret, retCc, reti, rst, nop, stop, halt, di, ei, illegal, prefixed, cbPage,
      State.regOperand, State.hlOperand, State.storeHl, State.modifyHl, State.ifCond, State.pushWord, State.popWord, State.returnFromInterrupt,
      State.fetchNext];
     repeat' first
       | exact .next _
       | exact .faults _ _
       | exact .refuses _ _
       | exact stops_finish _
       | apply stops_reading
       | apply stops_readNext
       | apply stops_writeNext
       | apply stops_ite
       | intro _
       | split)

/-- Every step stops so, if it stops. -/
theorem step_stops (s : State) : Stops (step s) := by
  unfold step
  split
  · exact .next _
  · exact .next _
  · exact .faults _ _
  · exact .refuses _ _
  · refine stops_ite ?_ ?_
    · unfold State.dispatchInterrupt
      refine stops_reading (stops_ite (.refuses _ _) ?_)
      unfold State.pushWord
      exact stops_reading (stops_writeNext fun _ => stops_writeNext fun _ => stops_finish _)
    · unfold State.fetchInstr State.fetchOpcode State.fetchRest State.fetchNext
      have h : ∀ (i : Instr) (t : State), Stops (promote s.cpu.ime (exec i t)) := fun i t =>
        stops_promote (by rw [exec_form]; exact form_stops _ _) _
      exact stops_busRead fun _ => stops_ite (stops_readNext fun _ _ => h _ _) (stops_ite (h _ _)
        (stops_ite (stops_readNext fun _ _ => h _ _) (stops_readNext fun _ _ => stops_readNext fun _ _ => h _ _)))

end Sys2Proof.Machine
end

