-- ==== Sys2Proof/Laws/Ticks.lean ====
section
/-! SUPPORT. Ticks and accesses in later M-cycles, whatever the CPU's registers hold. -/

namespace Sys2Proof.Machine

@[simp] theorem State.ticks_zero (s : State) : s.ticks 0 = s := rfl

theorem State.ticks_succ (s : State) (n : Nat) : s.ticks (n + 1) = s.tick.ticks n := rfl

theorem State.tick_eq_ticks (s : State) : s.tick = s.ticks 1 := rfl

theorem State.ticks_tick (s : State) (n : Nat) : (s.ticks n).tick = s.ticks (n + 1) := by
  induction n generalizing s with
  | zero => rfl
  | succ n ih => rw [State.ticks_succ, ih, State.ticks_succ s (n + 1)]

theorem State.ticks_ticks (s : State) (m n : Nat) : (s.ticks m).ticks n = s.ticks (m + n) := by
  induction m generalizing s with
  | zero => simp
  | succ m ih => rw [State.ticks_succ, ih, Nat.add_right_comm, State.ticks_succ]

@[simp] theorem State.ticks_cpu (s : State) (n : Nat) : (s.ticks n).cpu = s.cpu := by
  induction n generalizing s with
  | zero => rfl
  | succ n ih => rw [State.ticks_succ, ih]; rfl

@[simp] theorem State.ticks_cfg (s : State) (n : Nat) : (s.ticks n).cfg = s.cfg := by
  induction n generalizing s with
  | zero => rfl
  | succ n ih => rw [State.ticks_succ, ih]; rfl

@[simp] theorem State.ticks_bus (s : State) (n : Nat) : (s.ticks n).bus = s.bus := by
  induction n generalizing s with
  | zero => rfl
  | succ n ih => rw [State.ticks_succ, ih]; rfl

theorem State.ticks_withCpu (s : State) (c : Cpu) (n : Nat) : (s.withCpu c).ticks n = (s.ticks n).withCpu c := by
  induction n generalizing s with
  | zero => rfl
  | succ n ih => rw [State.ticks_succ, State.tick_withCpu, ih, State.ticks_succ]

/-! ### Reads and refusals do not look at the CPU -/

@[simp] theorem State.readByte_withCpu (s : State) (c : Cpu) (a : Word) : (s.withCpu c).readByte a = s.readByte a := rfl

@[simp] theorem State.readRefusal_withCpu (s : State) (c : Cpu) (a : Word) : (s.withCpu c).readRefusal a = s.readRefusal a := rfl

@[simp] theorem State.writeRefusal_withCpu (s : State) (c : Cpu) (a : Word) (v : Byte) :
    (s.withCpu c).writeRefusal a v = s.writeRefusal a v := rfl

@[simp] theorem State.key_withCpu (s : State) (c : Cpu) (a : Word) : (s.withCpu c).key a = s.key a := rfl

theorem State.nextByte_withCpu (s : State) (c : Cpu) (a : Word) : (s.withCpu c).nextByte a = s.nextByte a := by
  unfold State.nextByte
  rw [State.ticks_withCpu, State.readByte_withCpu]

theorem State.nextWrite_withCpu (s : State) (c : Cpu) (a : Word) (v : Byte) :
    (s.withCpu c).nextWrite a v = (s.nextWrite a v).withCpu c := by
  unfold State.nextWrite
  rw [State.ticks_withCpu, State.writeByte_withCpu]

theorem State.readGranted_withCpu (s : State) (c : Cpu) (a : Word) : (s.withCpu c).readGranted a ↔ s.readGranted a := by
  unfold State.readGranted
  rw [State.ticks_withCpu, State.readRefusal_withCpu]

theorem State.writeGranted_withCpu (s : State) (c : Cpu) (a : Word) (v : Byte) :
    (s.withCpu c).writeGranted a v ↔ s.writeGranted a v := by
  unfold State.writeGranted
  rw [State.ticks_withCpu, State.writeRefusal_withCpu]

@[simp] theorem State.nextWrite_cpu (s : State) (a : Word) (v : Byte) : (s.nextWrite a v).cpu = s.cpu := by
  unfold State.nextWrite; simp

@[simp] theorem State.nextWrite_cfg (s : State) (a : Word) (v : Byte) : (s.nextWrite a v).cfg = s.cfg := by
  unfold State.nextWrite; simp

@[simp] theorem State.pushed_cpu (s : State) (v : Word) : (s.pushed v).cpu = s.cpu := by
  unfold State.pushed; simp

/-! ### The operations, in these terms -/

theorem State.internalNext_eq (s : State) : s.internalNext = s.ticks 1 := rfl

theorem State.readNext_eq {s : State} {a : Word} (h : s.readGranted a) (k : Byte → State → Result) :
    s.readNext a k = k (s.nextByte a) (s.ticks 1) := State.readNext_granted h k

theorem State.writeNext_eq {s : State} {a : Word} {v : Byte} (h : s.writeGranted a v) (k : State → Result) :
    s.writeNext a v k = k (s.nextWrite a v) := State.writeNext_granted h k

theorem finish_eq (s : State) : finish s = .next (s.ticks 1) := rfl

theorem finish_withCpu (s : State) (c : Cpu) : finish (s.withCpu c) = .next ((s.ticks 1).withCpu c) := by
  rw [finish_eq, State.ticks_withCpu]

@[simp] theorem packFlags_and (z n h c : Bool) : packFlags z n h c &&& 0xF0 = packFlags z n h c := by
  cases z <;> cases n <;> cases h <;> cases c <;> decide

@[simp] theorem markWritten_nil (rs : List RegName) : markWritten rs [] = [] := rfl

theorem State.keptF_written {s : State} (h : s.allWritten) : s.keptF = s.cpu.f := by
  unfold State.allWritten at h
  unfold State.keptF
  rw [h]
  rfl

theorem State.setSp_written {s : State} (h : s.allWritten) (v : Word) : s.setSp v = s.withCpu { s.cpu with sp := v } := by
  unfold State.allWritten at h
  unfold State.setSp
  rw [show markWritten [.sp] s.cpu.unwritten = s.cpu.unwritten by rw [h]; rfl]

theorem State.setF_written {s : State} (h : s.allWritten) (v : Byte) : s.setF v = s.withCpu { s.cpu with f := v &&& 0xF0 } := by
  unfold State.allWritten at h
  unfold State.setF
  rw [show markWritten [.f] s.cpu.unwritten = s.cpu.unwritten by rw [h]; rfl]

theorem State.setReg_allWritten {s : State} (h : s.allWritten) (r : R8) (v : Byte) : (s.setReg r v).allWritten := by
  unfold State.allWritten at h ⊢
  show markWritten _ s.cpu.unwritten = []
  rw [h]; rfl

theorem State.withCpu_allWritten {s : State} {c : Cpu} : (s.withCpu c).allWritten ↔ c.unwritten = [] := Iff.rfl

theorem State.ticks_allWritten {s : State} (h : s.allWritten) (n : Nat) : (s.ticks n).allWritten := by
  unfold State.allWritten
  rw [State.ticks_cpu]
  exact h

theorem State.nextWrite_allWritten {s : State} (h : s.allWritten) (a : Word) (v : Byte) : (s.nextWrite a v).allWritten := by
  unfold State.allWritten
  rw [State.nextWrite_cpu]
  exact h

/-- A push, where it is granted: SP two lower, the two bytes written, and on with the rest. -/
theorem State.pushWord_eq {s : State} (hw : s.allWritten) {v : Word} (h : s.pushGranted v) (k : State → Result) :
    (s.ticks 1).pushWord v k = k ((s.pushed v).withCpu { s.cpu with sp := s.cpu.sp - 2 }) := by
  obtain ⟨h1, h2⟩ := h
  unfold State.pushWord
  rw [State.ticks_cpu, State.reading_written (State.ticks_allWritten hw 1), State.setSp_written (State.ticks_allWritten hw 1),
    State.writeNext_eq ((State.writeGranted_withCpu _ _ _ _).2 h1), State.nextWrite_withCpu,
    State.setSp_written (by simpa [State.allWritten] using hw), State.withCpu_withCpu,
    State.writeNext_eq ((State.writeGranted_withCpu _ _ _ _).2 h2), State.nextWrite_withCpu]
  simp only [State.withCpu_cpu, State.ticks_cpu, State.pushed]

/-- A pop, where it is granted: the value read, SP two higher, and on with the rest. -/
theorem State.popWord_eq {s : State} (hw : s.allWritten) (h : s.popGranted) (k : Word → State → Result) :
    s.popWord k = k s.popValue ((s.ticks 2).withCpu { s.cpu with sp := s.cpu.sp + 2 }) := by
  obtain ⟨h1, h2⟩ := h
  unfold State.popWord
  rw [State.reading_written (show s.internalNext.allWritten from hw), State.readNext_eq h1, State.setSp_written (State.ticks_allWritten hw 1),
    State.readNext_eq ((State.readGranted_withCpu _ _ _).2 h2), State.nextByte_withCpu, State.ticks_withCpu,
    State.setSp_written (by simpa [State.allWritten] using hw), State.withCpu_withCpu]
  simp only [State.withCpu_cpu, State.ticks_cpu, State.popValue, State.ticks_ticks]

end Sys2Proof.Machine
end

