-- ==== Sys2Proof/Tests/Slice0.lean ====
section
/-! SUPPORT. The ill-formed term, words written out from the spec's encodings, single steps of
spec/95_test_vectors.md, and a witness for every obligation with hypotheses. -/

namespace Sys2Proof.Tests

-- One test after another: each test's evaluation in the kernel would else hold a thread of its own.
set_option Elab.async false

open Sys2Proof Sys2Proof.Machine

/-! ## WellFormed and Decode -/

/-- The bare prefix byte is refused (30_encoding.md R139). -/
theorem test_wellFormed_refuses_prefix : Instr.prefixCb.wellFormed = false := by decide

/-- The illegal opcodes are well-formed (R140). -/
theorem test_wellFormed_takes_illegal : Instr.illegalD3.wellFormed = true := by decide

/-- What the decoder gives on a list of bytes, and what is left. -/
def read (bytes : List Byte) : Option (Instr × List Byte) := (decode bytes).toOption

/-- The decoder refuses an instruction whose bytes end too soon, by name. -/
theorem test_decode_empty : (read []) = none := by decide +kernel
theorem test_decode_truncated : read [0xCD, 0x34] = none ∧ read [0xCB] = none ∧ read [0x3E] = none := by decide +kernel

/-- 40_load.md: `01 ddd sss`, `00 ddd 110 n8`, `00 rr0 001 n16`, `11 rr0 101`, `0x08 n16`, `0xE2`, `0xF8`. -/
theorem test_decode_loads :
    read [0b01111000] = some (.ldAB, []) ∧ read [0b01110100] = some (.ldMemHlH, []) ∧ read [0b00110110, 0x3C] = some (.ldMemHlN8 0x3C, []) ∧
    read [0b00010001, 0xEF, 0xBE] = some (.ldDeN16 0xBEEF, []) ∧ read [0b11110101] = some (.pushAf, []) ∧
    read [0x08, 0x00, 0xC1] = some (.ldMemA16Sp 0xC100, []) := by decide +kernel

/-- 41_alu8.md and 42_alu16.md: `10 ooo sss`, `11 ooo 110 n8`, `00 ddd 100`, `00 rr1 001`. -/
theorem test_decode_alu :
    read [0b10001000] = some (.adcAB, []) ∧ read [0b10111110] = some (.cpAMemHl, []) ∧ read [0b11011110, 0x2A] = some (.sbcAN8 0x2A, []) ∧
    read [0b00000100] = some (.incB, []) ∧ read [0b00101001] = some (.addHlHl, []) ∧ read [0b11101000, 0xFF] = some (.addSpE8 0xFF, []) := by
  decide +kernel

/-- 43_rotate_shift_bit.md: `0xCB` then `00 ooo sss`, `01 bbb sss`, `10 bbb sss`, `11 bbb sss`. -/
theorem test_decode_cb :
    read [0xCB, 0b00110000] = some (.swapB, []) ∧ read [0xCB, 0b01111000] = some (.bit7B, []) ∧ read [0xCB, 0b10000110] = some (.res0MemHl, []) ∧
    read [0xCB, 0b11111111] = some (.set7A, []) ∧ read [0b00011111] = some (.rra, []) := by decide +kernel

/-- 44_control.md and 45_system.md: `11 0cc 010 n16`, `001 cc 000 e8`, `11 ttt 111`, `0xD9`, `0x10 n8`, `0x76`. -/
theorem test_decode_control :
    read [0b11001010, 0x00, 0x20] = some (.jpZA16 0x2000, []) ∧ read [0b00110000, 0x10] = some (.jrNcE8 0x10, []) ∧
    read [0b11101111] = some (.rst28, []) ∧ read [0xD9] = some (.reti, []) ∧ read [0x10, 0x00, 0x76] = some (.stop 0, [0x76]) ∧
    read [0x76] = some (.halt, []) ∧ read [0xFD] = some (.illegalFD, []) := by decide +kernel

/-! ## Single steps -/

/-- A DMG right after reset with a 32 KiB cartridge, pc at an address and bytes placed there. -/
def start (pc : Word) (code : List Byte) : State :=
  ({ State.reset with cpu := { State.reset.cpu with pc := pc } } : State).placed code

/-- The state after one step from `s` with its CPU, its interrupt registers and some bytes of memory changed first. -/
def ran (s : State) (c : Cpu → Cpu) (q : Irq → Irq) (mem : List (Word × Byte)) : Option State :=
  match step (mem.foldl (fun s x => s.placeByte x.1 x.2) { s with cpu := c s.cpu, irq := q s.irq }) with
  | .next t => some t
  | _ => none

/-- How a step that answers no next state ends: the run mode, pc and T-cycles of the state it leaves. -/
def ended (s : State) (q : Irq → Irq) (c : Cpu → Cpu) : Option (RunMode × Word × Nat) :=
  match step { s with cpu := c s.cpu, irq := q s.irq } with
  | .next _ => none
  | .fault f => some (f.left.cpu.run, f.left.cpu.pc, f.left.elapsed)
  | .refused r => r.left.map (fun t => (t.cpu.run, t.cpu.pc, t.elapsed))

/-- 2.6: an illegal opcode faults with its opcode and address, pc past it, before any device tick. -/
theorem test_illegal :
    ended (start 0x0300 [0xD3]) id id = some (.faulted (.illegalOpcode 0xD3 0x0300), 0x0301, 0) := by decide +kernel

/-- 3.5: `LD A,0x07` and an illegal opcode, run by `process_frame`: 8 T-cycles, pc past the illegal byte, A loaded. -/
theorem test_illegal_program :
    (match (start 0x0100 [0x3E, 0x07, 0xD3]).processFrame 5 with
      | .fault f n s => (s.cpu.run == .faulted (.illegalOpcode 0xD3 0x0102)) && f.left.cpu.a == 0x07 && (n, s.cpu.pc, s.cpu.a) == (8, 0x0103, 0x07)
      | _ => false) = true := by decide +kernel

/-- 2.6: STOP on a DMG is refused; its first byte's M-cycle has ticked. -/
theorem test_stop_dmg :
    ended (start 0x0200 [0x10, 0x00]) id id = some (.refused (.stopMode 0x0200), 0x0202, 4) := by decide +kernel

/-- 2.7: a dispatch that would push into IE is refused, in its third M-cycle. -/
theorem test_dispatch_ie_push :
    ended (start 0x0200 [0x00]) (fun _ => { iflag := 0x04, ie := 0x04 }) (fun c => { c with sp := 0, ime := .enabled }) =
      some (.refused (.dispatchIePush 0xFFFF), 0x0200, 8) := by decide +kernel

/-- 2.12: a store into a bus that OAM DMA holds is refused in its second M-cycle, one device tick on. -/
theorem test_store_refused :
    ended { start 0xFF80 [0x77] with dma := .transferring 0xC000 0 0 } id id =
      some (.refused (.dmaBusConflict 0x014D), 0xFF81, 4) := by decide +kernel

/-- 95_test_vectors.md 2.1. -/
theorem test_ld_a_b : (ran (start 0x0200 [0x78]) (fun c => { c with b := 0x12, a := 0x0 }) (fun q => q) []).map (fun t => (t.cpu.a, t.cpu.f)) = some (0x12, 0x80) := by
  rfl

/-- 95_test_vectors.md 2.1. -/
theorem test_ld_h_mem_hl : (ran (start 0x0200 [0x66]) (fun c => { c with h := 0xc0, l := 0x0 }) (fun q => q) [(0xC000, 0xD1)]).map (fun t => (t.cpu.h, t.cpu.l)) = some (0xD1, 0x00) := by
  rfl

/-- 95_test_vectors.md 2.1. -/
theorem test_ld_mem_hl_h : (ran (start 0x0200 [0x74]) (fun c => { c with h := 0xc1, l := 0x23 }) (fun q => q) []).map (fun t => t.readByte 0xC123) = some 0xC1 := by
  rfl

/-- 95_test_vectors.md 2.1. -/
theorem test_ld_mem_hl_n8 : (ran (start 0x0200 [0x36, 0x3C]) (fun c => { c with h := 0xc0, l := 0x0 }) (fun q => q) []).map (fun t => (t.readByte 0xC000, t.elapsed)) = some (0x3C, 12) := by
  rfl

/-- 95_test_vectors.md 2.1. -/
theorem test_ld_a_hl_inc_wraps : (ran (start 0x0200 [0x2A]) (fun c => { c with h := 0xff, l := 0xff }) (fun q => { q with ie := 0x1f }) []).map (fun t => (t.cpu.a, t.hl)) = some (0x1F, 0x0000) := by
  rfl

/-- 95_test_vectors.md 2.1. -/
theorem test_ld_hl_dec_a : (ran (start 0x0200 [0x32]) (fun c => { c with h := 0xc0, l := 0x0, a := 0x7 }) (fun q => q) []).map (fun t => (t.readByte 0xC000, t.hl)) = some (0x07, 0xBFFF) := by
  rfl

/-- 95_test_vectors.md 2.1. -/
theorem test_ldh_c_a : (ran (start 0x0200 [0xE2]) (fun c => { c with c := 0x80, a := 0x11 }) (fun q => q) []).map (fun t => t.readByte 0xFF80) = some 0x11 := by
  decide +kernel

/-- 95_test_vectors.md 2.1. -/
theorem test_ldh_a_if : (ran (start 0x0200 [0xF0, 0x0F]) (fun c => c) (fun q => q) []).map (fun t => t.cpu.a) = some 0xE1 := by
  rfl

/-- 95_test_vectors.md 2.1. -/
theorem test_ldh_if_a : (ran (start 0x0200 [0xE0, 0x0F]) (fun c => { c with a := 0xff }) (fun q => q) []).map (fun t => (t.irq.iflag, t.readByte 0xFF0F)) = some (0x1F, 0xFF) := by
  rfl

/-- 95_test_vectors.md 2.1. -/
theorem test_ld_a16_sp : (ran (start 0x0200 [0x08, 0x00, 0xC1]) (fun c => { c with sp := 0xfff8 }) (fun q => q) []).map (fun t => (t.readByte 0xC100, t.readByte 0xC101, t.elapsed)) = some (0xF8, 0xFF, 20) := by
  rfl

/-- 95_test_vectors.md 2.1. -/
theorem test_ld_a16_sp_wraps : (ran (start 0x0200 [0x08, 0xFF, 0xFF]) (fun c => { c with sp := 0x1234 }) (fun q => q) []).map (fun t => t.irq.ie) = some 0x34 := by
  decide +kernel

/-- 95_test_vectors.md 2.1. -/
theorem test_ld_sp_hl : (ran (start 0x0200 [0xF9]) (fun c => { c with h := 0xdf, l := 0xf0 }) (fun q => q) []).map (fun t => (t.cpu.sp, t.elapsed)) = some (0xDFF0, 8) := by
  rfl

/-- 95_test_vectors.md 2.1. -/
theorem test_ld_de_n16 : (ran (start 0x0200 [0x11, 0xEF, 0xBE]) (fun c => c) (fun q => q) []).map (fun t => (t.cpu.d, t.cpu.e)) = some (0xBE, 0xEF) := by
  rfl

/-- 95_test_vectors.md 2.1. -/
theorem test_push_bc : (ran (start 0x0200 [0xC5]) (fun c => { c with sp := 0xfffe, b := 0x12, c := 0x34 }) (fun q => q) []).map (fun t => (t.readByte 0xFFFD, t.readByte 0xFFFC, t.cpu.sp, t.elapsed)) = some (0x12, 0x34, 0xFFFC, 16) := by
  decide +kernel

/-- 95_test_vectors.md 2.1. -/
theorem test_pop_af_masks_f : (ran (start 0x0200 [0xF1]) (fun c => { c with sp := 0xfffc }) (fun q => q) [(0xFFFC, 0xFF), (0xFFFD, 0x12)]).map (fun t => (t.cpu.a, t.cpu.f, t.cpu.sp)) = some (0x12, 0xF0, 0xFFFE) := by
  rfl

/-- 95_test_vectors.md 2.1. -/
theorem test_pop_bc_wraps : (ran (start 0x0200 [0xC1]) (fun c => { c with sp := 0xffff }) (fun q => { q with ie := 0x5 }) [(0x0000, 0x31)]).map (fun t => (t.cpu.c, t.cpu.b, t.cpu.sp)) = some (0x05, 0x31, 0x0001) := by
  rfl

/-- 95_test_vectors.md 2.1. -/
theorem test_push_af_low : (ran (start 0x0200 [0xF5]) (fun c => { c with sp := 0x1, a := 0x1, f := 0xb0 }) (fun q => q) []).map (fun t => (t.irq.ie, t.cpu.sp)) = some (0xB0, 0xFFFF) := by
  decide +kernel

/-- 95_test_vectors.md 2.2. -/
theorem test_add_0 : (ran (start 0x0200 [0x80]) (fun c => { c with a := 0x3a, b := 0xc6, f := 0x0 }) (fun q => q) []).map (fun t => (t.cpu.a, t.cpu.f)) = some (0x0, 0xb0) := by
  rfl

/-- 95_test_vectors.md 2.2. -/
theorem test_add_1 : (ran (start 0x0200 [0x80]) (fun c => { c with a := 0xf0, b := 0x10, f := 0x0 }) (fun q => q) []).map (fun t => (t.cpu.a, t.cpu.f)) = some (0x0, 0x90) := by
  rfl

/-- 95_test_vectors.md 2.2. -/
theorem test_adc_2 : (ran (start 0x0200 [0x88]) (fun c => { c with a := 0xe1, b := 0xf, f := 0x10 }) (fun q => q) []).map (fun t => (t.cpu.a, t.cpu.f)) = some (0xf1, 0x20) := by
  rfl

/-- 95_test_vectors.md 2.2. -/
theorem test_adc_3 : (ran (start 0x0200 [0x88]) (fun c => { c with a := 0xff, b := 0x0, f := 0x10 }) (fun q => q) []).map (fun t => (t.cpu.a, t.cpu.f)) = some (0x0, 0xb0) := by
  rfl

/-- 95_test_vectors.md 2.2. -/
theorem test_sub_4 : (ran (start 0x0200 [0x90]) (fun c => { c with a := 0x3e, b := 0xf, f := 0x0 }) (fun q => q) []).map (fun t => (t.cpu.a, t.cpu.f)) = some (0x2f, 0x60) := by
  rfl

/-- 95_test_vectors.md 2.2. -/
theorem test_sub_5 : (ran (start 0x0200 [0x90]) (fun c => { c with a := 0x0, b := 0x1, f := 0x0 }) (fun q => q) []).map (fun t => (t.cpu.a, t.cpu.f)) = some (0xff, 0x70) := by
  rfl

/-- 95_test_vectors.md 2.2. -/
theorem test_sbc_6 : (ran (start 0x0200 [0x98]) (fun c => { c with a := 0x0, b := 0xff, f := 0x10 }) (fun q => q) []).map (fun t => (t.cpu.a, t.cpu.f)) = some (0x0, 0xf0) := by
  rfl

/-- 95_test_vectors.md 2.2. -/
theorem test_sbc_7 : (ran (start 0x0200 [0x98]) (fun c => { c with a := 0x3b, b := 0x4f, f := 0x10 }) (fun q => q) []).map (fun t => (t.cpu.a, t.cpu.f)) = some (0xeb, 0x70) := by
  rfl

/-- 95_test_vectors.md 2.2. -/
theorem test_cp_8 : (ran (start 0x0200 [0xB8]) (fun c => { c with a := 0x3c, b := 0x40, f := 0x0 }) (fun q => q) []).map (fun t => (t.cpu.a, t.cpu.f)) = some (0x3c, 0x50) := by
  rfl

/-- 95_test_vectors.md 2.2. -/
theorem test_and_9 : (ran (start 0x0200 [0xA0]) (fun c => { c with a := 0x5a, b := 0x3f, f := 0x0 }) (fun q => q) []).map (fun t => (t.cpu.a, t.cpu.f)) = some (0x1a, 0x20) := by
  rfl

/-- 95_test_vectors.md 2.2. -/
theorem test_or_10 : (ran (start 0x0200 [0xB0]) (fun c => { c with a := 0x5a, b := 0xf, f := 0x0 }) (fun q => q) []).map (fun t => (t.cpu.a, t.cpu.f)) = some (0x5f, 0x0) := by
  rfl

/-- 95_test_vectors.md 2.2. -/
theorem test_xor_11 : (ran (start 0x0200 [0xA8]) (fun c => { c with a := 0xff, b := 0xf, f := 0x0 }) (fun q => q) []).map (fun t => (t.cpu.a, t.cpu.f)) = some (0xf0, 0x0) := by
  rfl

/-- 95_test_vectors.md 2.2. -/
theorem test_add_a_a_12 : (ran (start 0x0200 [0x87]) (fun c => { c with a := 0x80, b := 0x0, f := 0x0 }) (fun q => q) []).map (fun t => (t.cpu.a, t.cpu.f)) = some (0x0, 0x90) := by
  rfl

/-- 95_test_vectors.md 2.2. -/
theorem test_sbc_a_a_13 : (ran (start 0x0200 [0x9F]) (fun c => { c with a := 0x22, b := 0x0, f := 0x10 }) (fun q => q) []).map (fun t => (t.cpu.a, t.cpu.f)) = some (0xff, 0x70) := by
  rfl

/-- 95_test_vectors.md 2.2. -/
theorem test_cp_a_a_14 : (ran (start 0x0200 [0xBF]) (fun c => { c with a := 0x22, b := 0x0, f := 0x0 }) (fun q => q) []).map (fun t => (t.cpu.a, t.cpu.f)) = some (0x22, 0xc0) := by
  rfl

/-- 95_test_vectors.md 2.2. -/
theorem test_adc_mem_hl : (ran (start 0x0200 [0x8E]) (fun c => { c with a := 0xe1, f := 0x10, h := 0xc0, l := 0x0 }) (fun q => q) [(0xC000, 0x1E)]).map (fun t => (t.cpu.a, t.cpu.f, t.elapsed)) = some (0x00, 0xB0, 8) := by
  rfl

/-- 95_test_vectors.md 2.2. -/
theorem test_sbc_n8 : (ran (start 0x0200 [0xDE, 0x2A]) (fun c => { c with a := 0x3b, f := 0x10 }) (fun q => q) []).map (fun t => (t.cpu.a, t.cpu.f)) = some (0x10, 0x40) := by
  rfl

/-- 95_test_vectors.md 2.2. -/
theorem test_inc_b_keeps_c : (ran (start 0x0200 [0x04]) (fun c => { c with b := 0xff, f := 0x10 }) (fun q => q) []).map (fun t => (t.cpu.b, t.cpu.f)) = some (0x00, 0xB0) := by
  rfl

/-- 95_test_vectors.md 2.2. -/
theorem test_dec_b : (ran (start 0x0200 [0x05]) (fun c => { c with b := 0x0, f := 0x0 }) (fun q => q) []).map (fun t => (t.cpu.b, t.cpu.f)) = some (0xFF, 0x60) := by
  rfl

/-- 95_test_vectors.md 2.2. -/
theorem test_inc_mem_hl : (ran (start 0x0200 [0x34]) (fun c => { c with h := 0xc0, l := 0x0, f := 0x0 }) (fun q => q) [(0xC000, 0xFF)]).map (fun t => (t.readByte 0xC000, t.cpu.f, t.elapsed)) = some (0x00, 0xA0, 12) := by
  rfl

/-- 95_test_vectors.md 2.2. -/
theorem test_dec_mem_hl : (ran (start 0x0200 [0x35]) (fun c => { c with h := 0xc0, l := 0x0, f := 0x10 }) (fun q => q) [(0xC000, 0x01)]).map (fun t => (t.readByte 0xC000, t.cpu.f, t.elapsed)) = some (0x00, 0xD0, 12) := by
  rfl

/-- 95_test_vectors.md 2.2. -/
theorem test_daa_0 : (ran (start 0x0200 [0x27]) (fun c => { c with a := 0x9a, f := 0x0 }) (fun q => q) []).map (fun t => (t.cpu.a, t.cpu.f)) = some (0x0, 0x90) := by
  rfl

/-- 95_test_vectors.md 2.2. -/
theorem test_daa_1 : (ran (start 0x0200 [0x27]) (fun c => { c with a := 0x9a, f := 0x70 }) (fun q => q) []).map (fun t => (t.cpu.a, t.cpu.f)) = some (0x34, 0x50) := by
  rfl

/-- 95_test_vectors.md 2.2. -/
theorem test_cpl : (ran (start 0x0200 [0x2F]) (fun c => { c with a := 0x35, f := 0x80 }) (fun q => q) []).map (fun t => (t.cpu.a, t.cpu.f)) = some (0xCA, 0xE0) := by
  rfl

/-- 95_test_vectors.md 2.2. -/
theorem test_scf : (ran (start 0x0200 [0x37]) (fun c => { c with f := 0xe0 }) (fun q => q) []).map (fun t => t.cpu.f) = some 0x90 := by
  rfl

/-- 95_test_vectors.md 2.2. -/
theorem test_ccf : (ran (start 0x0200 [0x3F]) (fun c => { c with f := 0x70 }) (fun q => q) []).map (fun t => t.cpu.f) = some 0x00 := by
  rfl

/-- 95_test_vectors.md 2.3. -/
theorem test_add_hl_bc : (ran (start 0x0200 [0x09]) (fun c => { c with h := 0xff, l := 0xff, b := 0x0, c := 0x1, f := 0x80 }) (fun q => q) []).map (fun t => (t.hl, t.cpu.f)) = some (0x0000, 0xB0) := by
  rfl

/-- 95_test_vectors.md 2.3. -/
theorem test_add_hl_hl : (ran (start 0x0200 [0x29]) (fun c => { c with h := 0x80, l := 0x0, f := 0x0 }) (fun q => q) []).map (fun t => (t.hl, t.cpu.f)) = some (0x0000, 0x10) := by
  rfl

/-- 95_test_vectors.md 2.3. -/
theorem test_add_hl_sp : (ran (start 0x0200 [0x39]) (fun c => { c with h := 0x0, l := 0x1, sp := 0xffff, f := 0x0 }) (fun q => q) []).map (fun t => (t.hl, t.cpu.f)) = some (0x0000, 0x30) := by
  rfl

/-- 95_test_vectors.md 2.3. -/
theorem test_add_sp_e8 : (ran (start 0x0200 [0xE8, 0xFF]) (fun c => { c with sp := 0x5 }) (fun q => q) []).map (fun t => (t.cpu.sp, t.cpu.f)) = some (0x0004, 0x30) := by
  rfl

/-- 95_test_vectors.md 2.3. -/
theorem test_ld_hl_sp_e8 : (ran (start 0x0200 [0xF8, 0x80]) (fun c => { c with sp := 0xffff }) (fun q => q) []).map (fun t => (t.hl, t.cpu.f)) = some (0xFF7F, 0x10) := by
  rfl

/-- 95_test_vectors.md 2.3. -/
theorem test_inc_bc : (ran (start 0x0200 [0x03]) (fun c => { c with b := 0xff, c := 0xff }) (fun q => q) []).map (fun t => (t.pair .bc, t.cpu.f)) = some (0x0000, 0x80) := by
  rfl

/-- 95_test_vectors.md 2.3. -/
theorem test_dec_sp : (ran (start 0x0200 [0x3B]) (fun c => { c with sp := 0x0 }) (fun q => q) []).map (fun t => t.cpu.sp) = some 0xFFFF := by
  rfl

/-- 95_test_vectors.md 2.4. -/
theorem test_rlca : (ran (start 0x0200 [0x07]) (fun c => { c with a := 0x85, f := 0x0 }) (fun q => q) []).map (fun t => (t.cpu.a, t.cpu.f)) = some (0xb, 0x10) := by
  rfl

/-- 95_test_vectors.md 2.4. -/
theorem test_rrca : (ran (start 0x0200 [0x0F]) (fun c => { c with a := 0x3b, f := 0x0 }) (fun q => q) []).map (fun t => (t.cpu.a, t.cpu.f)) = some (0x9d, 0x10) := by
  rfl

/-- 95_test_vectors.md 2.4. -/
theorem test_rla : (ran (start 0x0200 [0x17]) (fun c => { c with a := 0x95, f := 0x10 }) (fun q => q) []).map (fun t => (t.cpu.a, t.cpu.f)) = some (0x2b, 0x10) := by
  rfl

/-- 95_test_vectors.md 2.4. -/
theorem test_rra : (ran (start 0x0200 [0x1F]) (fun c => { c with a := 0x1, f := 0x0 }) (fun q => q) []).map (fun t => (t.cpu.a, t.cpu.f)) = some (0x0, 0x10) := by
  rfl

/-- 95_test_vectors.md 2.4. -/
theorem test_rlc_b : (ran (start 0x0200 [0xCB, 0x00]) (fun c => { c with b := 0x85, f := 0x0 }) (fun q => q) []).map (fun t => (t.cpu.b, t.cpu.f)) = some (0xb, 0x10) := by
  rfl

/-- 95_test_vectors.md 2.4. -/
theorem test_rrc_b : (ran (start 0x0200 [0xCB, 0x08]) (fun c => { c with b := 0x0, f := 0x10 }) (fun q => q) []).map (fun t => (t.cpu.b, t.cpu.f)) = some (0x0, 0x80) := by
  rfl

/-- 95_test_vectors.md 2.4. -/
theorem test_rl_b : (ran (start 0x0200 [0xCB, 0x10]) (fun c => { c with b := 0x11, f := 0x10 }) (fun q => q) []).map (fun t => (t.cpu.b, t.cpu.f)) = some (0x23, 0x0) := by
  rfl

/-- 95_test_vectors.md 2.4. -/
theorem test_rr_b : (ran (start 0x0200 [0xCB, 0x18]) (fun c => { c with b := 0x8a, f := 0x10 }) (fun q => q) []).map (fun t => (t.cpu.b, t.cpu.f)) = some (0xc5, 0x0) := by
  rfl

/-- 95_test_vectors.md 2.4. -/
theorem test_sla_b : (ran (start 0x0200 [0xCB, 0x20]) (fun c => { c with b := 0xff, f := 0x0 }) (fun q => q) []).map (fun t => (t.cpu.b, t.cpu.f)) = some (0xfe, 0x10) := by
  rfl

/-- 95_test_vectors.md 2.4. -/
theorem test_sra_b : (ran (start 0x0200 [0xCB, 0x28]) (fun c => { c with b := 0x81, f := 0x10 }) (fun q => q) []).map (fun t => (t.cpu.b, t.cpu.f)) = some (0xc0, 0x10) := by
  rfl

/-- 95_test_vectors.md 2.4. -/
theorem test_swap_b : (ran (start 0x0200 [0xCB, 0x30]) (fun c => { c with b := 0xf0, f := 0x10 }) (fun q => q) []).map (fun t => (t.cpu.b, t.cpu.f)) = some (0xf, 0x0) := by
  rfl

/-- 95_test_vectors.md 2.4. -/
theorem test_srl_b : (ran (start 0x0200 [0xCB, 0x38]) (fun c => { c with b := 0xff, f := 0x10 }) (fun q => q) []).map (fun t => (t.cpu.b, t.cpu.f)) = some (0x7f, 0x10) := by
  rfl

/-- 95_test_vectors.md 2.4. -/
theorem test_bit_7_b : (ran (start 0x0200 [0xCB, 0x78]) (fun c => { c with b := 0x7f, f := 0x10 }) (fun q => q) []).map (fun t => (t.cpu.b, t.cpu.f)) = some (0x7f, 0xb0) := by
  rfl

/-- 95_test_vectors.md 2.4. -/
theorem test_bit_3_b : (ran (start 0x0200 [0xCB, 0x58]) (fun c => { c with b := 0x8, f := 0x0 }) (fun q => q) []).map (fun t => (t.cpu.b, t.cpu.f)) = some (0x8, 0x20) := by
  rfl

/-- 95_test_vectors.md 2.4. -/
theorem test_res_7_b : (ran (start 0x0200 [0xCB, 0xB8]) (fun c => { c with b := 0xff, f := 0x0 }) (fun q => q) []).map (fun t => (t.cpu.b, t.cpu.f)) = some (0x7f, 0x0) := by
  rfl

/-- 95_test_vectors.md 2.4. -/
theorem test_set_7_b : (ran (start 0x0200 [0xCB, 0xF8]) (fun c => { c with b := 0x0, f := 0x0 }) (fun q => q) []).map (fun t => (t.cpu.b, t.cpu.f)) = some (0x80, 0x0) := by
  rfl

/-- 95_test_vectors.md 2.4. -/
theorem test_rlc_mem_hl : (ran (start 0x0200 [0xCB, 0x06]) (fun c => { c with h := 0xc0, l := 0x0, f := 0x0 }) (fun q => q) [(0xC000, 0x80)]).map (fun t => (t.readByte 0xC000, t.cpu.f, t.elapsed)) = some (0x01, 0x10, 16) := by
  rfl

/-- 95_test_vectors.md 2.4. -/
theorem test_bit_0_mem_hl : (ran (start 0x0200 [0xCB, 0x46]) (fun c => { c with h := 0xc0, l := 0x0, f := 0x10 }) (fun q => q) []).map (fun t => (t.readByte 0xC000, t.cpu.f, t.elapsed)) = some (0x00, 0xB0, 12) := by
  rfl

/-- 95_test_vectors.md 2.4. -/
theorem test_set_0_mem_if : (ran (start 0x0200 [0xCB, 0xC6]) (fun c => { c with h := 0xff, l := 0xf }) (fun q => { q with iflag := 0x0 }) []).map (fun t => (t.irq.iflag, t.elapsed)) = some (0x01, 16) := by
  decide +kernel

/-- 95_test_vectors.md 2.5. -/
theorem test_jp : (ran (start 0x0100 [0xC3, 0x50, 0x01]) (fun c => c) (fun q => q) []).map (fun t => (t.cpu.pc, t.elapsed)) = some (0x0150, 16) := by
  rfl

/-- 95_test_vectors.md 2.5. -/
theorem test_jp_nz_not_taken : (ran (start 0x0300 [0xC2, 0x00, 0x20]) (fun c => { c with f := 0x80 }) (fun q => q) []).map (fun t => (t.cpu.pc, t.elapsed)) = some (0x0303, 12) := by
  rfl

/-- 95_test_vectors.md 2.5. -/
theorem test_jp_z_taken : (ran (start 0x0300 [0xCA, 0x00, 0x20]) (fun c => { c with f := 0x80 }) (fun q => q) []).map (fun t => (t.cpu.pc, t.elapsed)) = some (0x2000, 16) := by
  rfl

/-- 95_test_vectors.md 2.5. -/
theorem test_jp_hl : (ran (start 0x0200 [0xE9]) (fun c => { c with h := 0x40, l := 0x0 }) (fun q => q) []).map (fun t => (t.cpu.pc, t.elapsed)) = some (0x4000, 4) := by
  rfl

/-- 95_test_vectors.md 2.5. -/
theorem test_jr_back : (ran (start 0x0200 [0x18, 0x80]) (fun c => c) (fun q => q) []).map (fun t => (t.cpu.pc, t.elapsed)) = some (0x0182, 12) := by
  rfl

/-- 95_test_vectors.md 2.5. -/
theorem test_jr_forward : (ran (start 0x0200 [0x18, 0x7F]) (fun c => c) (fun q => q) []).map (fun t => t.cpu.pc) = some 0x0281 := by
  rfl

/-- 95_test_vectors.md 2.5. -/
theorem test_jr_nz : (ran (start 0x0205 [0x20, 0xFB]) (fun c => { c with f := 0x0 }) (fun q => q) []).map (fun t => (t.cpu.pc, t.elapsed)) = some (0x0202, 12) := by
  rfl

/-- 95_test_vectors.md 2.5. -/
theorem test_jr_nc_not_taken : (ran (start 0x0205 [0x30, 0x10]) (fun c => { c with f := 0x10 }) (fun q => q) []).map (fun t => (t.cpu.pc, t.elapsed)) = some (0x0207, 8) := by
  rfl

/-- 95_test_vectors.md 2.5. -/
theorem test_call : (ran (start 0x0150 [0xCD, 0x00, 0x02]) (fun c => c) (fun q => q) []).map (fun t => (t.cpu.pc, t.readByte 0xFFFD, t.readByte 0xFFFC, t.cpu.sp, t.elapsed)) = some (0x0200, 0x01, 0x53, 0xFFFC, 24) := by
  decide +kernel

/-- 95_test_vectors.md 2.5. -/
theorem test_call_c_not_taken : (ran (start 0x0300 [0xDC, 0x34, 0x12]) (fun c => { c with f := 0x0 }) (fun q => q) []).map (fun t => (t.cpu.pc, t.cpu.sp, t.elapsed)) = some (0x0303, 0xFFFE, 12) := by
  rfl

/-- 95_test_vectors.md 2.5. -/
theorem test_call_nz : (ran (start 0x0300 [0xC4, 0x34, 0x12]) (fun c => { c with f := 0x0, sp := 0xd000 }) (fun q => q) []).map (fun t => (t.cpu.pc, t.readByte 0xCFFF, t.readByte 0xCFFE, t.elapsed)) = some (0x1234, 0x03, 0x03, 24) := by
  decide +kernel

/-- 95_test_vectors.md 2.5. -/
theorem test_ret : (ran (start 0x0200 [0xC9]) (fun c => { c with sp := 0xfffc }) (fun q => q) [(0xFFFC, 0x53), (0xFFFD, 0x01)]).map (fun t => (t.cpu.pc, t.cpu.sp, t.elapsed)) = some (0x0153, 0xFFFE, 16) := by
  rfl

/-- 95_test_vectors.md 2.5. -/
theorem test_ret_nz_not_taken : (ran (start 0x0400 [0xC0]) (fun c => { c with f := 0x80 }) (fun q => q) []).map (fun t => (t.cpu.pc, t.elapsed)) = some (0x0401, 8) := by
  rfl

/-- 95_test_vectors.md 2.5. -/
theorem test_ret_z : (ran (start 0x0400 [0xC8]) (fun c => { c with f := 0x80, sp := 0xfffc }) (fun q => q) [(0xFFFC, 0x53), (0xFFFD, 0x01)]).map (fun t => (t.cpu.pc, t.cpu.sp, t.elapsed)) = some (0x0153, 0xFFFE, 20) := by
  decide +kernel

/-- 95_test_vectors.md 2.5. -/
theorem test_reti : (ran (start 0x0200 [0xD9]) (fun c => { c with sp := 0xfffc }) (fun q => q) [(0xFFFC, 0x53), (0xFFFD, 0x01)]).map (fun t => (t.cpu.pc, t.cpu.ime, t.elapsed)) = some (0x0153, .enabled, 16) := by
  rfl

/-- 95_test_vectors.md 2.5. -/
theorem test_rst_28 : (ran (start 0x0500 [0xEF]) (fun c => c) (fun q => q) []).map (fun t => (t.cpu.pc, t.readByte 0xFFFD, t.readByte 0xFFFC, t.elapsed)) = some (0x0028, 0x05, 0x01, 16) := by
  decide +kernel

/-- 95_test_vectors.md 2.6. -/
theorem test_nop : (ran (start 0x0200 [0x00]) (fun c => c) (fun q => q) []).map (fun t => (t.cpu.pc, t.elapsed)) = some (0x0201, 4) := by
  rfl

/-- 95_test_vectors.md 2.6. -/
theorem test_di : (ran (start 0x0200 [0xF3]) (fun c => { c with ime := .enabled }) (fun q => q) []).map (fun t => t.cpu.ime) = some .disabled := by
  rfl

/-- 95_test_vectors.md 2.6. -/
theorem test_ei : (ran (start 0x0200 [0xFB]) (fun c => c) (fun q => q) []).map (fun t => t.cpu.ime) = some .pending := by
  rfl

/-- 95_test_vectors.md 2.6. -/
theorem test_ei_after_ei : (ran (start 0x0200 [0xFB]) (fun c => { c with ime := .pending }) (fun q => q) []).map (fun t => t.cpu.ime) = some .enabled := by
  rfl

/-- 95_test_vectors.md 2.6. -/
theorem test_halt : (ran (start 0x0200 [0x76]) (fun c => c) (fun q => { q with ie := 0x4, iflag := 0x0 }) []).map (fun t => (t.cpu.run, t.cpu.pc)) = some (.halted, 0x0201) := by
  rfl

/-- 95_test_vectors.md 2.6. -/
theorem test_halt_after_ei : (ran (start 0x0200 [0x76]) (fun c => { c with ime := .pending }) (fun q => q) []).map (fun t => (t.cpu.ime, t.cpu.pc)) = some (.enabled, 0x0200) := by
  rfl

/-- 95_test_vectors.md 2.6. -/
theorem test_ld_a_illegal_byte : (ran (start 0x0200 [0x3E, 0xD3]) (fun c => c) (fun q => q) []).map (fun t => t.cpu.a) = some 0xD3 := by
  rfl

/-- 95_test_vectors.md 2.7. -/
theorem test_dispatch_all : (ran (start 0x0200 [0x00]) (fun c => { c with ime := .enabled }) (fun q => { q with ie := 0x1f, iflag := 0x1f }) []).map (fun t => (t.cpu.pc, t.irq.iflag, t.readByte 0xFFFD, t.readByte 0xFFFC, t.elapsed)) = some (0x0040, 0x1E, 0x02, 0x00, 20) := by
  decide +kernel

/-- 95_test_vectors.md 2.7. -/
theorem test_dispatch_timer : (ran (start 0x0200 [0x00]) (fun c => { c with ime := .enabled }) (fun q => { q with ie := 0x14, iflag := 0x1c }) []).map (fun t => (t.cpu.pc, t.irq.iflag, t.cpu.ime)) = some (0x0050, 0x18, .disabled) := by
  decide +kernel

/-- 95_test_vectors.md 2.7. -/
theorem test_no_dispatch : (ran (start 0x0200 [0x00]) (fun c => { c with ime := .enabled }) (fun q => { q with ie := 0xe0, iflag := 0x1f }) []).map (fun t => t.cpu.pc) = some 0x0201 := by
  rfl

/-! ## Devices -/

/-- 1.3: counting from 0, TAC 0x05 increments TIMA after 16 counts, not 12. -/
theorem test_timer_rate :
    (timerCount false 12 ({ State.reset.timer with div := 0, tac := 5 }, State.reset.apu)).1.tima = 0x00 ∧
    (timerCount false 16 ({ State.reset.timer with div := 0, tac := 5 }, State.reset.apu)).1.tima = 0x01 := by decide +kernel

/-- 1.3: a DIV write counts if the timer is enabled and its bit is 1. -/
theorem test_div_write :
    (resetDiv false { State.reset.timer with div := 0x0008, tac := 5 } State.reset.apu).1.tima = 0x01 ∧
    (resetDiv false { State.reset.timer with div := 0x0007, tac := 5 } State.reset.apu).1.tima = 0x00 ∧
    (resetDiv false { State.reset.timer with div := 0x0008, tac := 1 } State.reset.apu).1.tima = 0x00 := by decide +kernel

/-- 1.4: the update that overflows, the reload after it, the return to Normal. -/
theorem test_tima_overflow :
    let s : State := { State.reset with timer := { div := 12, tima := 0xFF, tma := 0x80, tac := 5, phase := .normal } }
    ((s.ticks 1).timer.tima, (s.ticks 1).timer.phase, (s.ticks 1).irq.iflag.getLsbD 2) = (0x00, .overflow, false) ∧
    ((s.ticks 2).timer.tima, (s.ticks 2).timer.phase, (s.ticks 2).irq.iflag.getLsbD 2) = (0x80, .overflowProcessed, true) ∧
    ((s.ticks 3).timer.tima, (s.ticks 3).timer.phase) = (0x80, .normal) := by decide +kernel

/-- 2.8: TAC writes. -/
theorem test_tac_write :
    (({ State.reset.timer with div := 0x0008, tac := 5 } : Timer).writeTac 6).tima = 0x01 ∧
    (({ State.reset.timer with div := 0x0028, tac := 5 } : Timer).writeTac 6).tima = 0x00 ∧
    (({ State.reset.timer with div := 0x0008, tac := 1 } : Timer).writeTac 5).tima = 0x00 := by decide +kernel

/-- 2.9: P1 with Right pressed. -/
theorem test_joypad_read :
    (((State.reset.setKey .right true).writeByte 0xFF00 0x20).readByte 0xFF00,
      ((State.reset.setKey .right true).writeByte 0xFF00 0x10).readByte 0xFF00,
      ((State.reset.setKey .right true).writeByte 0xFF00 0x30).readByte 0xFF00) = (0xEE, 0xDF, 0xFF) := by decide +kernel

/-- 2.9: Start pressed with the action lines selected requests the interrupt; its release does not. -/
theorem test_joypad_interrupt :
    (((State.reset.writeByte 0xFF00 0x10).setKey .start true).irq.iflag.getLsbD 4,
      (({ (State.reset.writeByte 0xFF00 0x10).setKey .start true with irq := { iflag := 0, ie := 0 } } : State).setKey .start false).irq.iflag.getLsbD 4) =
    (true, false) := by decide +kernel

/-- 1.7: line 143's last dot enters VBlank and requests it. -/
theorem test_vblank :
    let r := ppuDot Params.default [] ({ State.reset.ppu with line := 143, clock := 455, mode := .hBlank }, { iflag := 0, ie := 0 })
    (r.1.line, r.1.clock, r.1.mode, r.2.iflag) = (144, 0, .vBlank, 1) := by decide +kernel

/-- 1.7: the modes of a visible line. -/
theorem test_modes :
    (ppuDot Params.default [] ({ State.reset.ppu with clock := 79 }, State.reset.irq)).1.mode = .drawLine ∧
    (ppuDot Params.default [] ({ State.reset.ppu with clock := 399, mode := .drawLine, pixel := 160 }, State.reset.irq)).1.mode = .hBlank := by
  decide +kernel

/-- 2.10: the colour indices of a tile row. -/
theorem test_tile_row :
    (List.range 8).map (tilePixel ((Memory.write [] 0 0x3C).write 1 0x7E) 0 0 0) = [0, 2, 3, 3, 3, 3, 2, 0] := by decide +kernel

/-- Eleven objects at Y 16, X from a list, as 1.8 has them. -/
def objects (xs : List Byte) : Memory := Memory.writeList [] oamBase (xs.flatMap (fun x => [16, x, 0, 0]))

/-- 1.8: the first ten in OAM order; outside CGB mode sorted by X. -/
theorem test_oam_scan :
    oamScan Params.default State.reset.ppu (objects [8, 9, 10, 11, 12, 13, 14, 15, 16, 17, 18]) = [0, 1, 2, 3, 4, 5, 6, 7, 8, 9] ∧
    oamScan Params.default State.reset.ppu (objects [18, 17, 16, 15, 14, 13, 12, 11, 10, 9, 8]) = [9, 8, 7, 6, 5, 4, 3, 2, 1, 0] ∧
    oamScan { Params.default with device := .cgb, cgbMode := true } { State.reset.ppu with opri := false }
      (objects [18, 17, 16, 15, 14, 13, 12, 11, 10, 9, 8]) = [0, 1, 2, 3, 4, 5, 6, 7, 8, 9] := by decide +kernel

/-- 2.11: NR52 and the LFSR. -/
theorem test_apu :
    ((State.reset.writeByte 0xFF26 0x00).readByte 0xFF26, State.reset.readByte 0xFF26, lfsrStep false 0x7FFF, lfsrStep true 0x7FFF) =
      (0x70, 0xF1, 0x3FFF, 0x3FBF) := by decide +kernel

/-- 1.9: MBC1 with RAM. -/
theorem test_mbc1_ram :
    let s : State := { State.reset with
      cfg := { Params.default with cart := some { controller := .mbc1, romBanks := 2, ramSize := 8192, hasRam := true, hasBattery := true } } }
    let s2 := (s.writeByte 0x0000 0x0A).writeByte 0xA000 0x5C
    (s.readByte 0xA000, s2.readByte 0xA000, (s2.writeByte 0 0).readByte 0xA000, ((s2.writeByte 0 0).writeByte 0 0x1A).readByte 0xA000) =
      (0xFF, 0x5C, 0xFF, 0x5C) := by decide +kernel

/-- 2.12: the refusals of the memory map. -/
theorem test_refusals :
    State.reset.writeRefusal 0xFF46 0xE0 = some (.dmaSource 0xE0) ∧ State.reset.writeRefusal 0xFF46 0xDF = none ∧
    (State.reset.writeByte 0xFF46 0xC1).readRefusal 0x0150 = some (.dmaBusConflict 0x0150) ∧
    (State.reset.writeByte 0xFF46 0xC1).readRefusal 0xFF80 = none := by decide +kernel

/-- 2.12: a cartridge of the MBC3 family builds no machine. -/
theorem test_unsupported :
    (match construct Params.default none (some (List.replicate 0x147 0 ++ [0x0F])) none with
      | .error (.unsupportedCartridge b) => some b
      | _ => none) = some 0x0F := by decide +kernel

/-! ## Witnesses: for each obligation with hypotheses, states and operands that meet them -/

/-- Interrupts enabled and one requested. -/
def interruptible : State :=
  { State.reset with cpu := { State.reset.cpu with ime := .enabled }, irq := { iflag := 1, ie := 1 } }

/-- A next state with a property that can be computed. -/
theorem exists_next {r : Result} (p : State → Bool)
    (h : (match r with | .next t => p t | _ => false) = true) : ∃ t, r = .next t ∧ p t = true := by
  cases r with
  | next t => exact ⟨t, rfl, h⟩
  | fault f => cases h
  | refused x => cases h

/-- A next state. -/
theorem exists_next' {r : Result} (h : (match r with | .next _ => true | _ => false) = true) : ∃ t, r = .next t := by
  obtain ⟨t, e, -⟩ := exists_next (fun _ => true) h
  exact ⟨t, e⟩

theorem reset_written : State.reset.allWritten := rfl

/-- At reset no access is refused in the next M-cycle: no DMA runs and the cartridge slot is empty. -/
theorem reset_read_granted (a : Word) : State.reset.readGranted a := rfl

theorem witness_DecodeOfEncode : ∃ i : Instr, i.wellFormed = true := ⟨.ldDeN16 0xFFFF, rfl⟩

theorem witness_EncodeOfDecode : ∃ (bytes rest : List Byte) (i : Instr), decode bytes = .ok (i, rest) := ⟨[0xCB, 0xFF, 1], [1], .set7A, rfl⟩

theorem witness_StepRunsDecoded :
    ∃ (s : State) (i : Instr) (rest : List Byte), s.cpu.run = .running ∧ s.takesInterrupt = false ∧
      decode s.fetchedBytes = .ok (i, rest) ∧ s.fetchGranted (encode i).length :=
  ⟨State.reset, .rst38, [0xFF, 0xFF], rfl, rfl, rfl, rfl, by intro h; exact absurd h (by decide), by intro h; exact absurd h (by decide)⟩

theorem witness_DispatchTaken :
    (interruptible.allWritten ∧ interruptible.cpu.run = .running ∧ interruptible.cpu.ime = .enabled ∧ interruptible.irq.pending = true ∧
      interruptible.cpu.sp ≠ 0x0000 ∧ interruptible.pushGranted interruptible.cpu.pc) ∧
    ∃ s : State, s.allWritten ∧ s.cpu.run = .running ∧ s.cpu.ime = .enabled ∧ s.irq.pending = true ∧ s.cpu.sp = 0x0000 :=
  ⟨⟨rfl, rfl, rfl, rfl, by decide, rfl, rfl⟩, { interruptible with cpu := { interruptible.cpu with sp := 0 } }, rfl, rfl, rfl, rfl, rfl⟩

theorem witness_LowestSourceWins : ∃ q : Irq, q.pending = true ∧ q.lowest.number = 4 := ⟨{ iflag := 0x10, ie := 0xF0 }, rfl, rfl⟩

theorem witness_IdleSteps :
    (∃ s : State, s.cpu.run = .halted) ∧ (∃ s : State, s.cpu.run = .switching 4) ∧ ∃ s : State, s.cpu.run = .switching 5 :=
  ⟨⟨{ State.reset with cpu := { State.reset.cpu with run := .halted } }, rfl⟩,
   ⟨{ State.reset with cpu := { State.reset.cpu with run := .switching 4 } }, rfl⟩,
   ⟨{ State.reset with cpu := { State.reset.cpu with run := .switching 5 } }, rfl⟩⟩

/-- A step that faults, one that is refused, one that goes on. -/
theorem witness_IdleSteps_stops :
    (∃ f, step (start 0x0200 [0xFD]) = .fault f) ∧ (∃ q, step (start 0x0200 [0x10, 0x00]) = .refused q) ∧
    ∃ t, step (start 0x0200 [0x00]) = .next t := ⟨⟨_, rfl⟩, ⟨_, rfl⟩, _, rfl⟩

/-- EI's delay, and DI in its shadow. -/
theorem witness_ImePromotion :
    ((ran (start 0x0200 [0x00]) (fun c => { c with ime := .pending }) id []).map (fun t => t.cpu.ime) = some .enabled) ∧
    ((ran (start 0x0200 [0xF3]) (fun c => { c with ime := .pending }) id []).map (fun t => t.cpu.ime) = some .disabled) := ⟨rfl, rfl⟩

theorem witness_RegisterLoads :
    (Instr.form .ldBC = .ldRegReg .b .c ∧ State.reset.allWritten) ∧ Instr.form (.ldAN8 0xFF) = .ldRegImm .a 0xFF := ⟨⟨rfl, rfl⟩, rfl⟩

theorem witness_MemoryLoads :
    State.reset.allWritten ∧
    (Instr.form .ldBMemHl = .ldRegMem .b ∧ State.reset.readGranted State.reset.hl) ∧
    (Instr.form .ldAMemBc = .ldAPtr .bc ∧ State.reset.readGranted (State.reset.pair .bc)) ∧
    (Instr.form .ldAMemDe = .ldAPtr .de ∧ State.reset.readGranted (State.reset.pair .de)) ∧
    (Instr.form (.ldAMemA16 0xFFFF) = .ldAAbs 0xFFFF ∧ State.reset.readGranted 0xFFFF) ∧
    (Instr.form .ldhAMemC = .ldhAC ∧ State.reset.readGranted (0xFF00 + zext16 State.reset.cpu.c)) ∧
    (Instr.form (.ldhAMemA8 0xFF) = .ldhAImm 0xFF ∧ State.reset.readGranted (0xFF00 + zext16 0xFF)) ∧
    Instr.form .ldAMemHlInc = .ldAHlInc ∧ Instr.form .ldAMemHlDec = .ldAHlDec :=
  ⟨rfl, ⟨rfl, rfl⟩, ⟨rfl, rfl⟩, ⟨rfl, rfl⟩, ⟨rfl, rfl⟩, ⟨rfl, rfl⟩, ⟨rfl, rfl⟩, rfl, rfl⟩

theorem witness_MemoryStores :
    State.reset.allWritten ∧
    (Instr.form .ldMemHlB = .ldMemReg .b ∧ State.reset.writeGranted State.reset.hl (State.reset.reg .b)) ∧
    (Instr.form (.ldMemHlN8 0) = .ldMemImm 0 ∧ State.reset.writeGranted State.reset.hl 0) ∧
    (Instr.form .ldMemBcA = .ldPtrA .bc ∧ State.reset.writeGranted (State.reset.pair .bc) State.reset.cpu.a) ∧
    (Instr.form .ldMemDeA = .ldPtrA .de ∧ State.reset.writeGranted (State.reset.pair .de) State.reset.cpu.a) ∧
    (Instr.form (.ldMemA16A 0xFFFF) = .ldAbsA 0xFFFF ∧ State.reset.writeGranted 0xFFFF State.reset.cpu.a) ∧
    (Instr.form .ldhMemCA = .ldhCA ∧ State.reset.writeGranted (0xFF00 + zext16 State.reset.cpu.c) State.reset.cpu.a) ∧
    (Instr.form (.ldhMemA8A 0xFF) = .ldhImmA 0xFF ∧ State.reset.writeGranted (0xFF00 + zext16 0xFF) State.reset.cpu.a) ∧
    (Instr.form .ldMemHlIncA = .ldHlIncA ∧ State.reset.writeGranted State.reset.hl State.reset.cpu.a) ∧
    Instr.form .ldMemHlDecA = .ldHlDecA :=
  ⟨rfl, ⟨rfl, rfl⟩, ⟨rfl, rfl⟩, ⟨rfl, rfl⟩, ⟨rfl, rfl⟩, ⟨rfl, rfl⟩, ⟨rfl, rfl⟩, ⟨rfl, rfl⟩, ⟨rfl, rfl⟩, rfl⟩

theorem witness_WordLoads :
    State.reset.allWritten ∧ Instr.form (.ldSpN16 0xFFFF) = .ldPairImm .sp 0xFFFF ∧ Instr.form .ldSpHl = .ldSpHl ∧
    (Instr.form (.ldMemA16Sp 0xC000) = .ldAbsSp 0xC000 ∧ State.reset.writeGranted 0xC000 (loByte State.reset.cpu.sp) ∧
      (State.reset.nextWrite 0xC000 (loByte State.reset.cpu.sp)).writeGranted 0xC001 (hiByte State.reset.cpu.sp)) :=
  ⟨rfl, rfl, rfl, rfl, rfl, rfl⟩

theorem witness_StackTransfers :
    State.reset.allWritten ∧ (Instr.form .pushAf = .push .af ∧ State.reset.pushGranted (State.reset.stkPair .af)) ∧
    (Instr.form .popAf = .pop .af ∧ State.reset.popGranted) := ⟨rfl, ⟨rfl, rfl, rfl⟩, rfl, rfl, rfl⟩

theorem witness_AluRegister : Instr.form .sbcAH = .aluReg .sbc .h ∧ State.reset.allWritten := ⟨rfl, rfl⟩

theorem witness_AluMemory : Instr.form .cpAMemHl = .aluMem .cp ∧ State.reset.allWritten ∧ State.reset.readGranted State.reset.hl :=
  ⟨rfl, rfl, rfl⟩

theorem witness_AluImmediate : Instr.form (.adcAN8 0xFF) = .aluImm .adc 0xFF ∧ State.reset.allWritten := ⟨rfl, rfl⟩

theorem witness_IncrementDecrement :
    State.reset.allWritten ∧ Instr.form .incA = .incReg .a ∧ Instr.form .decL = .decReg .l ∧
    (Instr.form .incMemHl = .incMem ∧ State.reset.readGranted State.reset.hl ∧
      (State.reset.ticks 1).writeGranted State.reset.hl (State.reset.nextByte State.reset.hl + 1)) ∧
    (Instr.form .decMemHl = .decMem ∧ (State.reset.ticks 1).writeGranted State.reset.hl (State.reset.nextByte State.reset.hl - 1)) :=
  ⟨rfl, rfl, rfl, ⟨rfl, rfl, rfl⟩, rfl, rfl⟩

theorem witness_AccumulatorAdjust :
    State.reset.allWritten ∧ Instr.form .daa = .daa ∧ Instr.form .cpl = .cpl ∧ Instr.form .scf = .scf ∧ Instr.form .ccf = .ccf :=
  ⟨rfl, rfl, rfl, rfl, rfl⟩

/-- The bounds of the BCD laws are met at their ends. -/
theorem witness_ArithmeticLaws : (99 + 0 ≤ 99) ∧ (99 ≤ 99 ∧ 99 ≤ 99) ∧ daaOut (bcd 45 + bcd 38) false false false = { a := bcd 83, c := false } :=
  ⟨by decide, by decide, by decide⟩

theorem witness_WordArithmetic :
    State.reset.allWritten ∧ Instr.form .incSp = .incPair .sp ∧ Instr.form .decHl = .decPair .hl ∧ Instr.form .addHlSp = .addHl .sp ∧
    Instr.form (.addSpE8 0x80) = .addSp 0x80 ∧ Instr.form (.ldHlSpE8 0x80) = .ldHlSp 0x80 := ⟨rfl, rfl, rfl, rfl, rfl, rfl⟩

theorem witness_RegisterRotates :
    Instr.form .rra = .rotA .rra ∧ Instr.form .swapA = .rotReg .swap .a ∧ State.reset.allWritten := ⟨rfl, rfl, rfl⟩

theorem witness_MemoryRotates :
    Instr.form .rlMemHl = .rotMem .rl ∧ State.reset.allWritten ∧ State.reset.readGranted State.reset.hl ∧
    (State.reset.ticks 1).writeGranted State.reset.hl (rotated .rl (State.reset.nextByte State.reset.hl) State.reset.flagC).r :=
  ⟨rfl, rfl, rfl, rfl⟩

theorem witness_BitInstructions :
    State.reset.allWritten ∧ Instr.form .bit7A = .bitReg 7 .a ∧ (Instr.form .bit7MemHl = .bitMem 7 ∧ State.reset.readGranted State.reset.hl) ∧
    Instr.form .res0B = .resReg 0 .b ∧ Instr.form .set7A = .setReg 7 .a ∧
    (Instr.form .res0MemHl = .resMem 0 ∧
      (State.reset.ticks 1).writeGranted State.reset.hl (State.reset.nextByte State.reset.hl &&& ~~~((1 : Byte) <<< 0))) ∧
    (Instr.form .set7MemHl = .setMem 7 ∧
      (State.reset.ticks 1).writeGranted State.reset.hl (State.reset.nextByte State.reset.hl ||| ((1 : Byte) <<< 7))) :=
  ⟨rfl, rfl, ⟨rfl, rfl⟩, rfl, rfl, ⟨rfl, rfl⟩, rfl, rfl⟩

/-- At reset Z is set and C clear: each condition's both ways. -/
theorem witness_Jumps :
    State.reset.allWritten ∧ Instr.form (.jpA16 0xFFFF) = .jp 0xFFFF ∧ Instr.form .jpHl = .jpHl ∧ Instr.form (.jrE8 0x80) = .jr 0x80 ∧
    (Instr.form (.jpZA16 0) = .jpCc .z 0 ∧ State.reset.condHolds .z) ∧ (Instr.form (.jpNzA16 0) = .jpCc .nz 0 ∧ ¬ State.reset.condHolds .nz) ∧
    (Instr.form (.jrNcE8 0) = .jrCc .nc 0 ∧ State.reset.condHolds .nc) ∧ (Instr.form (.jrCE8 0) = .jrCc .c 0 ∧ ¬ State.reset.condHolds .c) :=
  ⟨rfl, rfl, rfl, rfl, ⟨rfl, rfl⟩, ⟨rfl, (fun h => nomatch (show true = false from h))⟩, ⟨rfl, rfl⟩, rfl, (fun h => nomatch (show false = true from h))⟩

theorem witness_Calls :
    State.reset.allWritten ∧ State.reset.pushGranted State.reset.cpu.pc ∧ Instr.form (.callA16 0) = .call 0 ∧ Instr.form .rst38 = .rst 7 ∧
    (Instr.form (.callZA16 0) = .callCc .z 0 ∧ State.reset.condHolds .z) ∧ (Instr.form (.callCA16 0) = .callCc .c 0 ∧ ¬ State.reset.condHolds .c) :=
  ⟨rfl, ⟨rfl, rfl⟩, rfl, rfl, ⟨rfl, rfl⟩, rfl, (fun h => nomatch (show false = true from h))⟩

theorem witness_Returns :
    State.reset.allWritten ∧ State.reset.popGranted ∧ (State.reset.ticks 1).popGranted ∧ Instr.form .ret = .ret ∧ Instr.form .reti = .reti ∧
    (Instr.form .retZ = .retCc .z ∧ State.reset.condHolds .z) ∧ (Instr.form .retC = .retCc .c ∧ ¬ State.reset.condHolds .c) :=
  ⟨rfl, ⟨rfl, rfl⟩, ⟨rfl, rfl⟩, rfl, rfl, ⟨rfl, rfl⟩, rfl, (fun h => nomatch (show false = true from h))⟩

theorem witness_NopDiEi : Instr.form .nop = .nop ∧ Instr.form .di = .di ∧ Instr.form .ei = .ei := ⟨rfl, rfl, rfl⟩

theorem witness_HaltCases :
    Instr.form .halt = .halt ∧ (∃ s : State, s.cpu.ime = .pending) ∧ (interruptible.cpu.ime ≠ .pending ∧ interruptible.irq.pending = true) ∧
    (State.reset.cpu.ime ≠ .pending ∧ State.reset.irq.pending = false) :=
  ⟨rfl, ⟨{ State.reset with cpu := { State.reset.cpu with ime := .pending } }, rfl⟩, ⟨by decide, rfl⟩, by decide, rfl⟩

theorem witness_StopCases :
    Instr.form (.stop 0xFF) = .stop 0xFF ∧ (∃ s : State, s.cfg.cgbMode = true ∧ s.bus.keyArmed = true) ∧
    ¬ (State.reset.cfg.cgbMode = true ∧ State.reset.bus.keyArmed = true) :=
  ⟨rfl, ⟨{ State.reset with cfg := { Params.default with device := .cgb, cgbMode := true }, bus := { State.reset.bus with keyArmed := true } }, rfl, rfl⟩,
   fun h => nomatch (show false = true from h.1)⟩

theorem witness_IllegalOpcodesFault :
    (0xFD : Byte) ∈ ([0xD3, 0xDB, 0xDD, 0xE3, 0xE4, 0xEB, 0xEC, 0xED, 0xF4, 0xFC, 0xFD] : List Byte) ∧
    (let s := start 0x0200 [0xFD]
     s.cpu.run = .running ∧ s.takesInterrupt = false ∧ s.readRefusal s.cpu.pc = none ∧ s.readByte s.cpu.pc = 0xFD) :=
  ⟨by decide, rfl, rfl, rfl, rfl⟩

theorem witness_PrefixRunsCbPage :
    Instr.form .prefixCb = .cbPage ∧ State.reset.readGranted State.reset.cpu.pc ∧ State.reset.allWritten ∧
    (State.reset.nextByte State.reset.cpu.pc).toNat % 8 ≠ 6 := ⟨rfl, rfl, rfl, by decide +kernel⟩

theorem oam_first : isOamKey oamBase := by unfold isOamKey; omega

theorem push_stores : (Instr.form .pushBc).stores State.reset = [0xFFFD, 0xFFFC] := rfl

theorem push_keys : State.reset.key 0xFFFD = some 131453 ∧ State.reset.key 0xFFFC = some 131452 := ⟨rfl, rfl⟩

theorem push_completes : ∃ t, exec .pushBc State.reset = .next t := exists_next' (by decide +kernel)

/-- A push of BC: a next state, with the bytes it stores to. -/
theorem witness_Frames :
    Instr.wellFormed .pushBc = true ∧ State.reset.allWritten ∧ State.reset.flagsWf ∧ (∃ t, exec .pushBc State.reset = .next t) ∧
    R8.a ∉ (Instr.form .pushBc).dests ∧ (Instr.form .pushBc).writesIme = false ∧ (Instr.form .pushBc).writesRun = false ∧
    (∀ a ∈ (Instr.form .pushBc).stores State.reset, State.reset.key a ≠ some oamBase) ∧ isOamKey oamBase ∧
    (State.reset.dma = .disabled ∧ 0xFF46 ∉ (Instr.form .pushBc).stores State.reset) := by
  refine ⟨rfl, rfl, rfl, push_completes, by decide, rfl, rfl, ?_, oam_first, rfl, ?_⟩
  · rw [push_stores]
    intro a ha
    rcases List.mem_cons.1 ha with rfl | ha
    · rw [push_keys.1]; unfold oamBase; simp
    · rw [List.mem_singleton.1 ha, push_keys.2]; unfold oamBase; simp
  · rw [push_stores]; decide

/-- An instruction that does not write SP, and an instruction that stores nothing. -/
theorem witness_FrameDevices :
    (Instr.form .addAB).writesSp = false ∧ (Instr.form .addAB).stores State.reset = [] ∧ (∀ n, Instr.form .addAB ≠ .stop n) ∧
    ∃ t, exec .addAB State.reset = .next t :=
  ⟨rfl, rfl, (fun _ h => by cases h), exists_next' (by decide +kernel)⟩

/-- HALT halts. -/
theorem witness_FrameControl :
    State.reset.cpu.run ≠ .halted ∧ ∃ t, exec .halt State.reset = .next t ∧ decide (t.cpu.run = .halted) = true :=
  ⟨by decide, exists_next (fun t => decide (t.cpu.run = .halted)) (by decide +kernel)⟩

/-- The reset state meets every invariant, and takes a step. -/
theorem witness_Invariants :
    State.reset.mem.wf ∧ SparseWf blankPixel State.reset.ppu.frame ∧ State.reset.flagsWf ∧ State.reset.ppu.positionWf State.reset.cfg ∧
    State.reset.apu.dacWf ∧ State.reset.dmaWf ∧ State.reset.bus.banksWf ∧ State.reset.cfg.ramFits ∧ ∃ t, step State.reset = .next t :=
  ⟨reset_wf, ⟨List.Pairwise.nil, by intro x hx; cases hx⟩, rfl,
   by unfold Ppu.positionWf; rw [if_pos (by decide)]; exact ⟨by decide, by decide, rfl⟩,
   ⟨fun _ => rfl, (fun h => nomatch (show false = true from h)), (fun h => nomatch (show false = true from h)), (fun h => nomatch (show false = true from h))⟩,
   (by intro a b c h; cases h), ⟨by decide, by decide⟩, (by intro c h; cases h), exists_next' (by decide +kernel)⟩

/-- A transfer's last byte, and the same with the LCD off. -/
theorem witness_InvariantEdges :
    ({ State.reset with dma := .transferring 0xDF00 159 0 } : State).dmaWf ∧
    ({ State.reset.ppu with lcdc := 0, mode := .hBlank } : Ppu).positionWf Params.default :=
  ⟨by intro a b c h; cases h; exact ⟨by decide, by decide⟩,
   by unfold Ppu.positionWf; rw [if_neg (by decide)]; exact ⟨rfl, rfl, rfl⟩⟩

/-- STOP changes the speed. -/
theorem witness_OneWayState :
    ∃ s t : State, exec (.stop 0) s = .next t ∧ (t.bus.doubleSpeed != s.bus.doubleSpeed) = true :=
  let s : State := { State.reset with cfg := { Params.default with device := .cgb, cgbMode := true }, bus := { State.reset.bus with keyArmed := true } }
  ⟨s, exists_next (fun t => t.bus.doubleSpeed != s.bus.doubleSpeed) (by decide +kernel)⟩

/-- A step that faults. -/
theorem witness_OnlyIllegalOpcodesFault :
    (start 0x0200 [0xFD]).allWritten ∧ (start 0x0200 [0xFD]).faultWf ∧ (∃ f, step (start 0x0200 [0xFD]) = .fault f) ∧
    (start 0x0200 [0x00]).faultWf ∧ ∃ t, step (start 0x0200 [0x00]) = .next t :=
  ⟨rfl, (fun _ h => nomatch h), ⟨_, rfl⟩, (fun _ h => nomatch h), _, rfl⟩

/-- A CPU Faulted by the opcode it fetched meets the invariant, and faults again. -/
theorem witness_OnlyIllegalOpcodesFault_faulted :
    ∃ s : State, s.allWritten ∧ s.cpu.run = .faulted (.illegalOpcode 0xFD 0x0200) ∧ s.faultWf ∧ ∃ f, step s = .fault f :=
  ⟨State.reset.setRun (.faulted (.illegalOpcode 0xFD 0x0200)), rfl, rfl, (fun c h => ⟨0xFD, 0x0200, by cases h; rfl, by decide⟩), _, rfl⟩

theorem witness_ResetRegisters :
    let ok (d : Device) (m : Bool) : Prop := ∃ p : Params, p.postBoot = PostBoot.default ∧ p.device = d ∧ p.cgbMode = m
    ok .dmg false ∧ ok .mgb false ∧ ok .sgb false ∧ ok .sgb2 false ∧ ok .cgb true ∧ ok .cgb false :=
  ⟨⟨Params.default, rfl, rfl, rfl⟩, ⟨{ Params.default with device := .mgb }, rfl, rfl, rfl⟩,
   ⟨{ Params.default with device := .sgb }, rfl, rfl, rfl⟩, ⟨{ Params.default with device := .sgb2 }, rfl, rfl, rfl⟩,
   ⟨{ Params.default with device := .cgb, cgbMode := true }, rfl, rfl, rfl⟩, ⟨{ Params.default with device := .cgb }, rfl, rfl, rfl⟩⟩

theorem witness_EchoRam : (0xE000 : Word) ≤ 0xE000 ∧ (0xE000 : Word) < 0xFE00 ∧ (0xE000 : Word) ≤ 0xFDFF ∧ (0xFDFF : Word) < 0xFE00 := by decide

/-- Ends of the ranges, and a byte of another cell; an echo address is no such byte. -/
theorem witness_RamReadsBack :
    ((0xC000 : Word) ≤ 0xFDFF ∧ (0xFDFF : Word) < 0xFE00) ∧ ((0xFF80 : Word) ≤ 0xFFFE ∧ (0xFFFE : Word) < 0xFFFF) ∧
    State.reset.key 0xFFFF ≠ State.reset.key 0xFFFE ∧ State.reset.key 0xDDFF = State.reset.key 0xFDFF := by
  refine ⟨by decide, by decide, ?_, ?_⟩ <;> decide +kernel

theorem witness_RefusedAndLockedAccesses :
    (∃ s : State, s.dma ≠ .disabled ∧ s.cpu.run = .running ∧ s.takesInterrupt = false ∧ s.cpu.pc < 0xFF00) ∧
    (∃ s : State, s.cfg.ppuAccessLock = true ∧ s.ppu.lcdOn = true ∧ s.ppu.mode = .drawLine) ∧
    (State.reset.cfg.ppuAccessLock = true ∧ State.reset.ppu.lcdOn = true ∧ State.reset.ppu.mode = .oamScan) ∧
    (0x8000 : Word) ≤ 0x9FFF ∧ (0x9FFF : Word) < 0xA000 ∧ (0xFE00 : Word) ≤ 0xFE9F ∧ (0xFE9F : Word) < 0xFEA0 :=
  ⟨⟨{ State.reset with dma := .transferring 0xC000 0 0 }, by decide, rfl, rfl, by decide⟩,
   ⟨{ State.reset with ppu := { State.reset.ppu with mode := .drawLine } }, rfl, rfl, rfl⟩, ⟨rfl, rfl, rfl⟩, by decide, by decide, by decide, by decide⟩

/-- A CGB in CGB mode that draws a line: its palette data at 0xFF69 and 0xFF6B reads 0xFF, and with the lock off it does not. -/
theorem witness_RefusedAndLockedAccesses_palette :
    let s : State := { State.reset with
      cfg := { Params.default with device := .cgb, cgbMode := true }
      ppu := { State.reset.ppu with mode := .drawLine } }
    s.cfg.ppuAccessLock = true ∧ s.ppu.lcdOn = true ∧ s.ppu.mode = .drawLine ∧ s.cfg.cgbMode = true ∧
    (s.readByte 0xFF69, s.readByte 0xFF6B) = (0xFF, 0xFF) ∧
    ({ s with cfg := { s.cfg with ppuAccessLock := false } } : State).readByte 0xFF69 = 0x00 := ⟨rfl, rfl, rfl, rfl, rfl, rfl⟩

/-- A store that finds OAM DMA on the bus in its second M-cycle. -/
theorem witness_RefusedAndLockedAccesses_store :
    ∃ s : State, Instr.form .ldMemHlB = .ldMemReg .b ∧ s.allWritten ∧ (s.ticks 1).dma ≠ .disabled ∧ s.hl < 0xFF00 :=
  ⟨{ State.reset with dma := .transferring 0xC000 0 0 }, rfl, rfl, by decide +kernel, by decide⟩

theorem witness_DmaCopiesFourBytes :
    State.reset.cfg.dmaTPerByte = 1 ∧ (∃ s : State, s.cfg.dmaTPerByte = 1 ∧ s.dma = .transferring 0xDF00 156 0) ∧ 156 + 4 ≤ 160 :=
  ⟨rfl, ⟨{ State.reset with dma := .transferring 0xDF00 156 0 }, rfl, rfl⟩, by decide⟩

/-- A 1 MiB MBC1 cartridge with bank 2 in the high field. -/
def mbc1 : State :=
  { State.reset with
    cfg := { Params.default with cart := some { plainCart with controller := .mbc1, romBanks := 64 } }
    bus := { State.reset.bus with mbc1 := { State.reset.bus.mbc1 with bank2 := 2 } } }

/-- Every clause at both ends of its range. -/
theorem witness_Mbc1Banking :
    (∃ c, mbc1.cfg.cart = some c ∧ c.controller = .mbc1) ∧
    ((0x0000 : Word) < 0x2000 ∧ (0x1FFF : Word) < 0x2000) ∧ ((0x2000 : Word) ≤ 0x2000 ∧ (0x3FFF : Word) < 0x4000) ∧
    ((0x4000 : Word) ≤ 0x4000 ∧ (0x5FFF : Word) < 0x6000) ∧ ((0x6000 : Word) ≤ 0x6000 ∧ (0x7FFF : Word) < 0x8000) ∧
    mbc1.bus.bootMapped = false ∧ (0x20 : Byte).toNat % 32 = 0 ∧ (0x3FFF : Word) < 0x4000 :=
  ⟨⟨_, rfl, rfl⟩, ⟨by decide, by decide⟩, ⟨by decide, by decide⟩, ⟨by decide, by decide⟩, ⟨by decide, by decide⟩, rfl, rfl, by decide⟩

/-- The registers at the ends of their ranges (20_memory.md R88). -/
theorem test_mbc1_ranges :
    ((mbc1.writeByte 0x0000 0x0A).bus.mbc1.ramEnable, (mbc1.writeByte 0x1FFF 0x0A).bus.mbc1.ramEnable) = (true, true) ∧
    ((mbc1.writeByte 0x2000 0x00).bus.mbc1.bank1, (mbc1.writeByte 0x3FFF 0x3F).bus.mbc1.bank1, (mbc1.writeByte 0x2000 0x20).bus.mbc1.bank2) =
      (1, 0x1F, 2) ∧
    ((mbc1.writeByte 0x4000 0x07).bus.mbc1.bank2, (mbc1.writeByte 0x5FFF 0x01).bus.mbc1.bank2) = (3, 1) ∧
    ((mbc1.writeByte 0x6000 0x01).bus.mbc1.mode, (mbc1.writeByte 0x7FFF 0x02).bus.mbc1.mode) = (true, false) := by decide +kernel

theorem witness_TimerRate :
    ∃ t : Timer, t.div = 0 ∧ t.tima = 0 ∧ t.phase = .normal ∧ t.tac.getLsbD 2 = true ∧ 4095 < 256 * 2 ^ (fallBit t.tac + 1) :=
  ⟨{ State.reset.timer with div := 0, tac := 5 }, rfl, rfl, rfl, rfl, by decide⟩

/-- 1.1: MBC1 of 2 MiB, 0x01 to 0x4000 and then 0x00 to 0x2000: the window shows bank 0x21. -/
theorem test_mbc1_bank0x21 :
    let s : State := { State.reset with
      cfg := { Params.default with cart := some { plainCart with controller := .mbc1, romBanks := 128 } }
      mem := Memory.write [] (romBase + 0x21 * 0x4000 + 5) 0x5A }
    (((s.writeByte 0x4000 0x01).writeByte 0x2000 0x00).readByte 0x4005, (s.writeByte 0x2000 0x00).readByte 0x4005) = (0x5A, 0xFF) := by decide +kernel

/-- The enabled timer in each phase, at a tick in which its signal falls and at one in which it does not. -/
theorem witness_TimerOverflowAndDiv :
    let on (phase : TimaPhase) (div : Word) : Timer := { div := div, tima := 0xFF, tma := 0xFF, tac := 5, phase := phase }
    ((on .overflow 0).phase = .overflow ∧ (on .overflow 0).fallsInTick = false ∧ (on .overflow 12).fallsInTick = true) ∧
    ((on .overflowProcessed 0).phase ≠ .overflow ∧ (on .overflowProcessed 0).fallsInTick = false) ∧
    ((on .normal 12).phase ≠ .overflow ∧ (on .normal 12).fallsInTick = true ∧ (on .normal 12).tima = 0xFF) ∧
    ((on .normal 8).tac.getLsbD 2 && (on .normal 8).div.getLsbD (fallBit (on .normal 8).tac)) = true := by decide

/-- A DIV write that counts TIMA at 0xFF overflows it. -/
theorem test_div_write_overflow :
    let s : State := { State.reset with timer := { div := 0x0008, tima := 0xFF, tma := 0x80, tac := 5, phase := .normal } }
    ((s.writeByte 0xFF04 0x00).timer.tima, (s.writeByte 0xFF04 0x00).timer.phase, (s.writeByte 0xFF04 0x00).timer.div) = (0x00, .overflow, 0) := by
  decide +kernel

/-- A transfer one tick from its end, and one two ticks from it. -/
theorem witness_SerialAndJoypad :
    ∃ s s2 : State, s.serial.elapsed = some 4092 ∧ serialPeriod s.cfg s.serial ≤ 4092 + 4 ∧
      s2.serial.elapsed = some 4088 ∧ 4088 + 4 < serialPeriod s2.cfg s2.serial :=
  ⟨{ State.reset with serial := { State.reset.serial with elapsed := some 4092 } },
   { State.reset with serial := { State.reset.serial with elapsed := some 4088 } }, rfl, by decide, rfl, by decide⟩

theorem witness_PpuEvents :
    (∃ p : Ppu, p.lcdOn = true ∧ p.line = 143 ∧ p.clock = 455) ∧ State.reset.ppu.lcdOn = true ∧ (0x7F : Byte).getLsbD 7 = false :=
  ⟨⟨{ State.reset.ppu with line := 143, clock := 455 }, rfl, rfl, rfl⟩, rfl, by decide⟩

/-- A key that is not OAM's, and a step with the boot ROM still mapped. -/
theorem witness_TickFrame : ¬ isOamKey vramBase := by unfold isOamKey vramBase oamBase; omega

theorem witness_OneWayState_boot :
    ∃ s t : State, step s = .next t ∧ t.bus.bootMapped = true :=
  ⟨{ State.reset with bus := Bus.initial true }, exists_next (fun t => t.bus.bootMapped) (by decide +kernel)⟩

end Sys2Proof.Tests
end

section
/-! SUPPORT. Packed flags under a mask (41_alu8.md R202), and F and SP written in a state where every register is. -/

namespace Sys2Proof.Machine

/-- The bits of packed flags. -/
theorem packFlags_bits (z n h c : Bool) :
    (packFlags z n h c).getLsbD 7 = z ∧ (packFlags z n h c).getLsbD 6 = n ∧ (packFlags z n h c).getLsbD 5 = h ∧
      (packFlags z n h c).getLsbD 4 = c ∧ packFlags z n h c &&& 0x0F = 0 := by
  cases z <;> cases n <;> cases h <;> cases c <;> decide

/-- The low bits of a byte whose low nibble is 0. -/
theorem getLsbD_of_and_0x0F {f : Byte} (hf : f &&& 0x0F = 0) {i : Nat} (hi : i < 4) : f.getLsbD i = false := by
  have hbit : (f &&& 0x0F).getLsbD i = false := by rw [hf]; exact BitVec.getLsbD_zero
  interval_cases i <;> simpa using hbit

/-- Packed flags agree with an F whose low nibble is 0 under a mask that has only flags in which they agree. -/
theorem packFlags_and_mask {f m : Byte} (hf : f &&& 0x0F = 0) {z n h c : Bool}
    (hz : m.getLsbD 7 = true → z = f.getLsbD 7) (hn : m.getLsbD 6 = true → n = f.getLsbD 6)
    (hh : m.getLsbD 5 = true → h = f.getLsbD 5) (hc : m.getLsbD 4 = true → c = f.getLsbD 4) :
    packFlags z n h c &&& m = f &&& m := by
  obtain ⟨h7, h6, h5, h4, hlow⟩ := packFlags_bits z n h c
  refine BitVec.eq_of_getLsbD_eq fun i hi => ?_
  rw [BitVec.getLsbD_and, BitVec.getLsbD_and]
  by_cases hi4 : i < 4
  · rw [getLsbD_of_and_0x0F hlow hi4, getLsbD_of_and_0x0F hf hi4]
  · cases hm : m.getLsbD i with
    | false => simp
    | true =>
      congr 1
      obtain rfl | rfl | rfl | rfl : i = 4 ∨ i = 5 ∨ i = 6 ∨ i = 7 := by omega
      · rw [h4, hc hm]
      · rw [h5, hh hm]
      · rw [h6, hn hm]
      · rw [h7, hz hm]

theorem and_0xF0_and_0x0F (v : Byte) : v &&& 0xF0 &&& 0x0F = 0 := by rw [BitVec.and_assoc]; simp

theorem State.keptF_getLsbD {s : State} (h : s.allWritten) (i : Nat) : s.keptF.getLsbD i = s.cpu.f.getLsbD i := by
  rw [State.keptF_written h]

theorem State.setSp_allWritten {s : State} (h : s.allWritten) (v : Word) : (s.setSp v).allWritten := by
  rw [State.setSp_written h]
  exact h

theorem State.setF_allWritten {s : State} (h : s.allWritten) (v : Byte) : (s.setF v).allWritten := by
  rw [State.setF_written h]
  exact h

end Sys2Proof.Machine
end

section
/-! SUPPORT. What an instruction may change of the CPU, said once: every operation an instruction is made of stays inside the
frame that `Form.dests`, `Form.writesSp`, `Form.flagMask`, `Form.writesIme` and `Form.writesRun` give its form. -/

namespace Sys2Proof.Machine

/-- From `s` to `t`, the CPU's registers changed at most as the form may change them. -/
structure CpuFrame (f : Form) (s t : State) : Prop where
  reg : ∀ r, r ∉ f.dests → t.reg r = s.reg r
  sp : f.writesSp = false → t.cpu.sp = s.cpu.sp
  written : s.allWritten → t.allWritten
  flagsWf : s.flagsWf → t.flagsWf
  flags : s.allWritten → s.flagsWf → t.cpu.f &&& ~~~f.flagMask = s.cpu.f &&& ~~~f.flagMask
  ime : f.writesIme = false → t.cpu.ime = s.cpu.ime
  run : f.writesRun = false → t.cpu.run = s.cpu.run
  haltBug : f ≠ .halt → t.cpu.haltBug = s.cpu.haltBug

namespace CpuFrame

variable {f : Form} {s t : State}

theorem refl : CpuFrame f s s where
  reg _ _ := rfl
  sp _ := rfl
  written h := h
  flagsWf h := h
  flags _ _ := rfl
  ime _ := rfl
  run _ := rfl
  haltBug _ := rfl

/-! ### The state operations -/

/-- The frame looks at nothing but the CPU. -/
theorem of_cpu_eq (h : CpuFrame f s t) {u : State} (e : u.cpu = t.cpu) : CpuFrame f s u where
  reg r hr := by
    have hu : u.reg r = t.reg r := by cases r <;> simp [State.reg, e]
    rw [hu, h.reg r hr]
  sp hf := by rw [e, h.sp hf]
  written hw := by unfold State.allWritten; rw [e]; exact h.written hw
  flagsWf hf := by unfold State.flagsWf; rw [e]; exact h.flagsWf hf
  flags hw hf := by rw [e, h.flags hw hf]
  ime hf := by rw [e, h.ime hf]
  run hf := by rw [e, h.run hf]
  haltBug hf := by rw [e, h.haltBug hf]

theorem tick (h : CpuFrame f s t) : CpuFrame f s t.tick := h.of_cpu_eq t.tick_cpu

theorem writeByte (h : CpuFrame f s t) (a : Word) (v : Byte) : CpuFrame f s (t.writeByte a v) :=
  h.of_cpu_eq (t.writeByte_cpu a v)

/-- A register may be written if it is a destination, or with the value it holds. -/
theorem setReg (h : CpuFrame f s t) {r : R8} {v : Byte} (hr : r ∉ f.dests → v = t.reg r) : CpuFrame f s (t.setReg r v) where
  reg q hq := by
    by_cases e : q = r
    · subst e
      rw [State.setReg_reg_same, hr hq, h.reg q hq]
    · rw [State.setReg_reg_other _ e, h.reg q hq]
  written hw := State.setReg_allWritten (h.written hw) r v
  __ := h

theorem setDest (h : CpuFrame f s t) {r : R8} (v : Byte) (hr : r ∈ f.dests) : CpuFrame f s (t.setReg r v) :=
  h.setReg fun hn => absurd hr hn

theorem setOnlyDest (h : CpuFrame f s t) {r : R8} (v : Byte) (hd : f.dests = [r]) : CpuFrame f s (t.setReg r v) :=
  h.setDest v (by rw [hd]; exact List.mem_singleton_self r)

theorem setSp (h : CpuFrame f s t) (v : Word) (hf : f.writesSp = true) : CpuFrame f s (t.setSp v) where
  reg q hq := by rw [State.setSp_reg, h.reg q hq]
  sp hn := by rw [hf] at hn; cases hn
  written hw := State.setSp_allWritten (h.written hw) v
  __ := h

theorem setHl (h : CpuFrame f s t) (v : Word) (hr : [.h, .l] ⊆ f.dests) : CpuFrame f s (t.setPair .hl v) :=
  (h.setDest _ (hr List.mem_cons_self)).setDest _ (hr (List.mem_cons_of_mem _ List.mem_cons_self))

/-- A pair may be written by a form that may write what `LD r16,n16` writes. -/
theorem setPair (h : CpuFrame f s t) {rr : R16} (v : Word) (hr : (Form.ldPairImm rr v).dests ⊆ f.dests)
    (hsp : (Form.ldPairImm rr v).writesSp = true → f.writesSp = true) : CpuFrame f s (t.setPair rr v) := by
  cases rr with
  | bc => exact (h.setDest _ (hr List.mem_cons_self)).setDest _ (hr (List.mem_cons_of_mem _ List.mem_cons_self))
  | de => exact (h.setDest _ (hr List.mem_cons_self)).setDest _ (hr (List.mem_cons_of_mem _ List.mem_cons_self))
  | hl => exact h.setHl v hr
  | sp => exact h.setSp v (hsp rfl)

/-- F may be written with a value that keeps every flag the form does not write. -/
theorem setF (h : CpuFrame f s t) {v : Byte}
    (hv : t.allWritten → t.flagsWf → v &&& 0xF0 &&& ~~~f.flagMask = t.cpu.f &&& ~~~f.flagMask) : CpuFrame f s (t.setF v) where
  reg q hq := by rw [State.setF_reg, h.reg q hq]
  written hw := State.setF_allWritten (h.written hw) v
  flagsWf _ := and_0xF0_and_0x0F v
  flags hw hf := by rw [State.setF_cpu_f, hv (h.written hw) (h.flagsWf hf), h.flags hw hf]
  __ := h

/-- The four flags may be written if each is one the form writes or keeps its value. -/
theorem setFlags (h : CpuFrame f s t) {z n hc c : Bool}
    (hz : t.allWritten → (~~~f.flagMask).getLsbD 7 = true → z = t.cpu.f.getLsbD 7)
    (hn : t.allWritten → (~~~f.flagMask).getLsbD 6 = true → n = t.cpu.f.getLsbD 6)
    (hh : t.allWritten → (~~~f.flagMask).getLsbD 5 = true → hc = t.cpu.f.getLsbD 5)
    (hcy : t.allWritten → (~~~f.flagMask).getLsbD 4 = true → c = t.cpu.f.getLsbD 4) : CpuFrame f s (t.setZNHC z n hc c) :=
  h.setF fun hw hf => by rw [packFlags_and, packFlags_and_mask hf (hz hw) (hn hw) (hh hw) (hcy hw)]

theorem setZNHC (h : CpuFrame f s t) {z n hc c : Bool} (hm : f.flagMask = 0xF0) : CpuFrame f s (t.setZNHC z n hc c) := by
  refine h.setFlags ?_ ?_ ?_ ?_ <;> rw [hm] <;> exact fun _ hb => absurd hb (by decide)

theorem setZNH (h : CpuFrame f s t) {z n hc : Bool} (hm : f.flagMask = 0xE0) : CpuFrame f s (t.setZNH z n hc) := by
  refine h.setFlags ?_ ?_ ?_ (fun hw _ => State.keptF_getLsbD hw 4) <;> rw [hm] <;> exact fun _ hb => absurd hb (by decide)

theorem setNHC (h : CpuFrame f s t) {n hc c : Bool} (hm : f.flagMask = 0x70) : CpuFrame f s (t.setNHC n hc c) := by
  refine h.setFlags (fun hw _ => State.keptF_getLsbD hw 7) ?_ ?_ ?_ <;> rw [hm] <;> exact fun _ hb => absurd hb (by decide)

theorem setNH (h : CpuFrame f s t) {n hc : Bool} (hm : f.flagMask = 0x60) : CpuFrame f s (t.setNH n hc) := by
  refine h.setFlags (fun hw _ => State.keptF_getLsbD hw 7) ?_ ?_ (fun hw _ => State.keptF_getLsbD hw 4) <;> rw [hm] <;>
    exact fun _ hb => absurd hb (by decide)

/-- pc may always be written; ime, the run mode and the HALT bug as the form allows. -/
theorem setControl (h : CpuFrame f s t) {pc : Word} {ime : Ime} {run : RunMode} {haltBug : Bool}
    (hime : f.writesIme = false → ime = t.cpu.ime) (hrun : f.writesRun = false → run = t.cpu.run)
    (hbug : f ≠ .halt → haltBug = t.cpu.haltBug) :
    CpuFrame f s (t.withCpu { t.cpu with pc := pc, ime := ime, run := run, haltBug := haltBug }) where
  reg q hq := by
    rw [← h.reg q hq]
    cases q <;> rfl
  ime hf := (hime hf).trans (h.ime hf)
  run hf := (hrun hf).trans (h.run hf)
  haltBug hf := (hbug hf).trans (h.haltBug hf)
  __ := h

theorem setPc (h : CpuFrame f s t) (v : Word) : CpuFrame f s (t.setPc v) :=
  h.setControl (fun _ => rfl) (fun _ => rfl) (fun _ => rfl)

theorem setIme (h : CpuFrame f s t) (m : Ime) (hf : f.writesIme = true) : CpuFrame f s (t.setIme m) :=
  h.setControl (fun hn => by rw [hf] at hn; cases hn) (fun _ => rfl) (fun _ => rfl)

theorem setRun (h : CpuFrame f s t) (m : RunMode) (hf : f.writesRun = true) : CpuFrame f s (t.setRun m) :=
  h.setControl (fun _ => rfl) (fun hn => by rw [hf] at hn; cases hn) (fun _ => rfl)

/-- The speed switch writes the run mode alone. -/
theorem switchSpeed (h : CpuFrame f s t) (hf : f.writesRun = true) : CpuFrame f s t.switchSpeed := by
  unfold State.switchSpeed
  refine setRun ?_ _ hf
  exact h.of_cpu_eq rfl

/-! ### The M-cycles -/

theorem finish (h : CpuFrame f s t) : IfNext (finish t) (CpuFrame f s) := ifNext_next.2 h.tick

theorem readNext (h : CpuFrame f s t) {a : Word} {k : Byte → State → Result}
    (hk : ∀ v u, CpuFrame f s u → IfNext (k v u) (CpuFrame f s)) : IfNext (t.readNext a k) (CpuFrame f s) :=
  ifNext_readNext (hk _ _ h.tick)

theorem writeNext (h : CpuFrame f s t) {a : Word} {v : Byte} {k : State → Result}
    (hk : ∀ u, CpuFrame f s u → IfNext (k u) (CpuFrame f s)) : IfNext (t.writeNext a v k) (CpuFrame f s) :=
  ifNext_writeNext fun _ => hk _ (h.tick.writeByte a v)

/-- A last M-cycle that writes. -/
theorem store (h : CpuFrame f s t) {a : Word} {v : Byte} : IfNext (t.writeNext a v Machine.finish) (CpuFrame f s) :=
  h.writeNext fun _ => finish

theorem pushWord (h : CpuFrame f s t) (hf : f.writesSp = true) {v : Word} {k : State → Result}
    (hk : ∀ u, CpuFrame f s u → IfNext (k u) (CpuFrame f s)) : IfNext (t.pushWord v k) (CpuFrame f s) :=
  ifNext_reading ((h.setSp _ hf).writeNext fun _ h1 => (h1.setSp _ hf).writeNext hk)

theorem popWord (h : CpuFrame f s t) (hf : f.writesSp = true) {k : Word → State → Result}
    (hk : ∀ v u, CpuFrame f s u → IfNext (k v u) (CpuFrame f s)) : IfNext (t.popWord k) (CpuFrame f s) :=
  ifNext_reading (h.readNext fun _ _ h1 => (h1.setSp _ hf).readNext fun _ _ h2 => hk _ _ (h2.setSp _ hf))

theorem hlOperand (h : CpuFrame f s t) {k : Byte → State → Result}
    (hk : ∀ v u, CpuFrame f s u → IfNext (k v u) (CpuFrame f s)) : IfNext (t.hlOperand k) (CpuFrame f s) :=
  ifNext_reading (h.readNext hk)

theorem modifyHl (h : CpuFrame f s t) {rs : List RegName} {g : Byte → State → Byte × State}
    (hg : ∀ v u, CpuFrame f s u → CpuFrame f s (g v u).2) : IfNext (t.modifyHl rs g) (CpuFrame f s) :=
  h.hlOperand fun v u hu => ifNext_reading (hg v u hu).store

/-! ### Calls and returns -/

theorem call (h : CpuFrame f s t) (hf : f.writesSp = true) (nn : Word) : IfNext (call nn t) (CpuFrame f s) :=
  h.tick.pushWord hf fun _ h1 => (h1.setPc _).finish

theorem ret (h : CpuFrame f s t) (hf : f.writesSp = true) : IfNext (ret t) (CpuFrame f s) :=
  h.popWord hf fun _ _ h1 => (h1.tick.setPc _).finish

theorem returnFromInterrupt (h : CpuFrame f s t) (hf : f.writesSp = true) (hi : f.writesIme = true) :
    IfNext t.returnFromInterrupt (CpuFrame f s) := by
  unfold State.returnFromInterrupt
  refine h.popWord hf fun v u h1 => CpuFrame.finish ?_
  exact ((h1.setPc v).setIme .enabled hi).of_cpu_eq rfl

/-! ### The accumulator operations -/

/-- An `alu` operation writes A, but CP keeps it. -/
theorem aluResult (h : CpuFrame f s t) {op : Alu} (v : Byte) (hd : f.dests = (Form.aluMem op).dests) (hm : f.flagMask = 0xF0) :
    CpuFrame f s (t.aluResult op v) := by
  refine setZNHC (setReg h fun hn => ?_) hm
  rw [hd] at hn
  cases op with
  | cp => rfl
  | _ => exact absurd (List.mem_singleton_self _) hn

end CpuFrame

end Sys2Proof.Machine
end

section
/-! SUPPORT. Every form stays in its frame. -/

namespace Sys2Proof.Machine

/-- Every form but the byte 0xCB alone, which is no instruction, stays in its frame. -/
theorem form_frame {f : Form} (hf : f ≠ .cbPage) (s : State) : IfNext (f.run s) (CpuFrame f s) := by
  have h : CpuFrame f s s := .refl
  unfold Form.run
  cases f with
  -- 40_load.md
  | ldRegReg dst src => exact ifNext_reading (h.setOnlyDest _ rfl).finish
  | ldRegImm dst n => exact (h.setOnlyDest _ rfl).finish
  | ldRegMem dst => exact h.hlOperand fun _ _ h1 => (h1.setOnlyDest _ rfl).finish
  | ldMemReg src => exact ifNext_reading h.store
  | ldMemImm n => exact ifNext_reading h.store
  | ldAPtr p => exact ifNext_reading (h.readNext fun _ _ h1 => (h1.setOnlyDest _ rfl).finish)
  | ldPtrA p => exact ifNext_reading h.store
  | ldAAbs nn => exact h.readNext fun _ _ h1 => (h1.setOnlyDest _ rfl).finish
  | ldAbsA nn => exact ifNext_reading h.store
  | ldhAC => exact ifNext_reading (h.readNext fun _ _ h1 => (h1.setOnlyDest _ rfl).finish)
  | ldhCA => exact ifNext_reading h.store
  | ldhAImm n => exact h.readNext fun _ _ h1 => (h1.setOnlyDest _ rfl).finish
  | ldhImmA n => exact ifNext_reading h.store
  | ldAHlInc => exact h.hlOperand fun _ _ h1 => ((h1.setDest _ List.mem_cons_self).setHl _ (List.subset_cons_self _ _)).finish
  | ldAHlDec => exact h.hlOperand fun _ _ h1 => ((h1.setDest _ List.mem_cons_self).setHl _ (List.subset_cons_self _ _)).finish
  | ldHlIncA => exact ifNext_reading (h.writeNext fun _ h1 => (h1.setHl _ (List.Subset.refl _)).finish)
  | ldHlDecA => exact ifNext_reading (h.writeNext fun _ h1 => (h1.setHl _ (List.Subset.refl _)).finish)
  | ldPairImm rr nn => exact (h.setPair _ (List.Subset.refl _) id).finish
  | ldAbsSp nn => exact ifNext_reading (h.writeNext fun _ h1 => h1.store)
  | ldSpHl => exact ifNext_reading (h.tick.setSp _ rfl).finish
  | push rr => exact ifNext_reading (h.tick.pushWord rfl fun _ => CpuFrame.finish)
  | pop rr =>
    refine h.popWord rfl fun v u h1 => CpuFrame.finish ?_
    cases rr with
    | bc => exact h1.setPair (rr := .bc) v (List.Subset.refl _) nofun
    | de => exact h1.setPair (rr := .de) v (List.Subset.refl _) nofun
    | hl => exact h1.setHl v (List.Subset.refl _)
    | af => exact (h1.setOnlyDest _ rfl).setF fun _ hw => (and_0xF0_and_0x0F _).trans hw.symm
  -- 41_alu8.md
  | aluReg op src => exact ifNext_reading (h.aluResult _ (by cases op <;> rfl) rfl).finish
  | aluMem op =>
    exact h.hlOperand fun _ _ h1 => ifNext_reading (h1.aluResult _ rfl rfl).finish
  | aluImm op n => exact ifNext_reading (h.aluResult _ (by cases op <;> rfl) rfl).finish
  | incReg dst => exact ifNext_reading ((h.setOnlyDest _ rfl).setZNH rfl).finish
  | incMem => exact h.modifyHl fun _ _ h1 => h1.setZNH rfl
  | decReg dst => exact ifNext_reading ((h.setOnlyDest _ rfl).setZNH rfl).finish
  | decMem => exact h.modifyHl fun _ _ h1 => h1.setZNH rfl
  | daa =>
    refine ifNext_reading (CpuFrame.finish ((h.setOnlyDest _ rfl).setFlags ?_ (fun _ _ => rfl) ?_ ?_)) <;>
      exact fun _ hb => absurd hb (by decide)
  | cpl => exact ifNext_reading ((h.setOnlyDest _ rfl).setNH rfl).finish
  | scf => exact (h.setNHC rfl).finish
  | ccf => exact ifNext_reading (h.setNHC rfl).finish
  -- 42_alu16.md
  | incPair rr => exact ifNext_reading (h.tick.setPair _ (by cases rr <;> exact List.Subset.refl _) (by cases rr <;> exact id)).finish
  | decPair rr => exact ifNext_reading (h.tick.setPair _ (by cases rr <;> exact List.Subset.refl _) (by cases rr <;> exact id)).finish
  | addHl rr => exact ifNext_reading ((h.tick.setHl _ (List.Subset.refl _)).setNHC rfl).finish
  | addSp e => exact ifNext_reading ((h.tick.tick.setSp _ rfl).setZNHC rfl).finish
  | ldHlSp e => exact ifNext_reading ((h.tick.setHl _ (List.Subset.refl _)).setZNHC rfl).finish
  -- 43_rotate_shift_bit.md
  | rotA k => exact ifNext_reading ((h.setOnlyDest _ rfl).setZNHC rfl).finish
  | rotReg k r => exact ifNext_reading ((h.setOnlyDest _ rfl).setZNHC rfl).finish
  | rotMem k => exact h.modifyHl fun _ _ h1 => h1.setZNHC rfl
  | bitReg b r => exact ifNext_reading (h.setZNH rfl).finish
  | bitMem b => exact h.hlOperand fun _ _ h1 => (h1.setZNH rfl).finish
  | resReg b r => exact ifNext_reading (h.setOnlyDest _ rfl).finish
  | resMem b => exact h.modifyHl fun _ _ h1 => h1
  | setReg b r => exact ifNext_reading (h.setOnlyDest _ rfl).finish
  | setMem b => exact h.modifyHl fun _ _ h1 => h1
  -- 44_control.md
  | jp nn => exact (h.tick.setPc _).finish
  | jpCc cc nn => exact ifNext_ifCond (h.tick.setPc _).finish h.finish
  | jpHl => exact ifNext_reading (h.setPc _).finish
  | jr e => exact (h.tick.setPc _).finish
  | jrCc cc e => exact ifNext_ifCond (h.tick.setPc _).finish h.finish
  | call nn => exact h.call rfl nn
  | callCc cc nn => exact ifNext_ifCond (h.call rfl nn) h.finish
  | ret => exact h.ret rfl
  | retCc cc => exact ifNext_ifCond (h.tick.ret rfl) h.tick.finish
  | reti => exact h.returnFromInterrupt rfl rfl
  | rst t => exact h.tick.pushWord rfl fun _ h1 => (h1.setPc _).finish
  -- 45_system.md
  | nop => exact h.finish
  | stop n => exact ifNext_ite (h.switchSpeed rfl).finish (ifNext_refused _)
  | halt =>
    exact ifNext_ite (h.setControl nofun (fun _ => rfl) (fun _ => rfl)).finish <|
      ifNext_ite (ifNext_ite (h.setControl (fun _ => rfl) (fun _ => rfl) (absurd rfl)).finish h.finish) (h.setRun _ rfl).finish
  | di => exact (h.setIme _ rfl).finish
  | ei =>
    refine CpuFrame.finish ?_
    split
    · exact h.setIme _ rfl
    · exact h
  | illegal op => exact ifNext_fault _
  | cbPage => exact absurd rfl hf

theorem eq_prefixCb_of_form {i : Instr} (h : i.form = .cbPage) : i = .prefixCb := by
  cases i with
  | prefixCb => rfl
  | _ => cases h

theorem form_ne_cbPage {i : Instr} (h : i.wellFormed = true) : i.form ≠ .cbPage := by
  intro hform
  rw [eq_prefixCb_of_form hform] at h
  cases h

theorem eq_halt_of_form {i : Instr} (h : i.form = .halt) : i = .halt := by
  cases i with
  | halt => rfl
  | _ => cases h

/-- Every well-formed instruction that completes stays in its form's frame. -/
theorem exec_frame {i : Instr} {s t : State} (hi : i.wellFormed = true) (h : exec i s = .next t) : CpuFrame i.form s t := by
  rw [exec_form] at h
  exact form_frame (form_ne_cbPage hi) s t h

end Sys2Proof.Machine
end

section
/-! SUPPORT. The run mode (10_state.md R28): no step that answers a next state leaves the CPU Faulted or Refused, and a step that stops
is repeated from the state it leaves. -/

namespace Sys2Proof.Machine

/-- The CPU is neither Faulted nor Refused. -/
def State.live (s : State) : Prop := (∀ c, s.cpu.run ≠ .faulted c) ∧ ∀ c, s.cpu.run ≠ .refused c

theorem State.live.of_run_eq {s t : State} (h : s.live) (e : t.cpu.run = s.cpu.run) : t.live := by
  unfold State.live
  rw [e]
  exact h

theorem State.live_of_running {s : State} (h : s.cpu.run = .running) : s.live := by
  unfold State.live
  rw [h]
  exact ⟨nofun, nofun⟩

theorem State.setRun_switchingMode_live (s : State) (n : Nat) : (s.setRun (switchingMode n)).live := by
  unfold State.live switchingMode
  rw [State.setRun_cpu_run]
  split <;> exact ⟨nofun, nofun⟩

/-! ### Instructions -/

/-- The second byte of a 0xCB instruction selects a rule that does not write the run mode (30_encoding.md R139). -/
theorem cbPage_eq_form (op : Byte) (s : State) :
    ∃ f : Form, f ≠ .cbPage ∧ f.writesRun = false ∧ cbPage op s = f.run s := by
  unfold cbPage
  simp only
  split
  · exact ⟨.rotReg _ _, nofun, rfl, rfl⟩
  · exact ⟨.rotMem _, nofun, rfl, rfl⟩
  · exact ⟨.bitReg _ _, nofun, rfl, rfl⟩
  · exact ⟨.bitMem _, nofun, rfl, rfl⟩
  · exact ⟨.resReg _ _, nofun, rfl, rfl⟩
  · exact ⟨.resMem _, nofun, rfl, rfl⟩
  · exact ⟨.setReg _ _, nofun, rfl, rfl⟩
  · exact ⟨.setMem _, nofun, rfl, rfl⟩

theorem prefixed_run (s : State) : IfNext (prefixed s) (fun t => t.cpu.run = s.cpu.run) := by
  unfold prefixed
  refine ifNext_readNext ?_
  simp only [State.tick_cpu]
  obtain ⟨f, hf, hrun, e⟩ := cbPage_eq_form (s.tick.readByte s.cpu.pc) (s.tick.setPc (s.cpu.pc + 1))
  rw [e]
  exact (form_frame hf _).mono fun t h => h.run hrun

theorem form_run {f : Form} (hf : f.writesRun = false) (s : State) : IfNext (f.run s) (fun t => t.cpu.run = s.cpu.run) := by
  by_cases hcb : f = .cbPage
  · subst hcb
    exact prefixed_run s
  · exact (form_frame hcb s).mono fun t h => h.run hf

theorem halt_live {s : State} (h : s.live) : IfNext (halt s) State.live :=
  ifNext_ite (ifNext_next.2 h) <|
    ifNext_ite (ifNext_ite (ifNext_next.2 h) (ifNext_next.2 h)) (ifNext_next.2 ⟨nofun, nofun⟩)

theorem stop_live (n : Byte) (s : State) : IfNext (stop n s) State.live :=
  ifNext_ite (ifNext_next.2 (State.setRun_switchingMode_live _ _)) (ifNext_refused _)

/-- The run mode STOP leaves is not Halted (45_system.md R341). -/
theorem stop_not_halted (n : Byte) (s : State) : IfNext (stop n s) (fun t => t.cpu.run ≠ .halted) := by
  refine ifNext_ite (ifNext_next.2 ?_) (ifNext_refused _)
  show switchingMode s.cfg.speedSwitchT ≠ .halted
  unfold switchingMode
  split <;> exact nofun

theorem form_live (f : Form) {s : State} (h : s.live) : IfNext (f.run s) State.live := by
  cases hf : f.writesRun with
  | false => exact (form_run hf s).mono fun t e => h.of_run_eq e
  | true =>
    cases f with
    | halt => exact halt_live h
    | stop n => exact stop_live n s
    | _ => cases hf

/-! ### Steps -/

theorem State.opcodeFetched_run (s : State) : s.opcodeFetched.cpu.run = s.cpu.run := by
  unfold State.opcodeFetched
  split <;> rfl

/-- A fetch leaves the run mode. -/
theorem ifNext_fetchInstr {P : State → Prop} {s : State} {k : Instr → State → Result}
    (hk : ∀ i t, t.cpu.run = s.cpu.run → IfNext (k i t) P) : IfNext (s.fetchInstr k) P := by
  have h1 := s.opcodeFetched_run
  unfold State.fetchInstr State.fetchOpcode State.fetchRest
  refine ifNext_busRead ?_
  refine ifNext_ite (ifNext_readNext (hk _ _ h1)) (ifNext_ite (hk _ _ h1) (ifNext_ite (ifNext_readNext (hk _ _ h1)) ?_))
  exact ifNext_readNext (ifNext_readNext (hk _ _ h1))

theorem State.promoteIme_run (s : State) (before : Ime) : (s.promoteIme before).cpu.run = s.cpu.run := by
  unfold State.promoteIme
  split <;> rfl

theorem promote_live {r : Result} (h : IfNext r State.live) (before : Ime) : IfNext (promote before r) State.live := by
  cases r with
  | next s => exact ifNext_next.2 ((ifNext_next.1 h).of_run_eq (s.promoteIme_run before))
  | fault f => exact ifNext_fault f
  | refused q => exact ifNext_refused q

/-- A dispatch changes of the CPU what RETI may change: SP, pc and ime (60_exceptions.md R366, R369). -/
theorem dispatchInterrupt_frame (s : State) : IfNext s.dispatchInterrupt (CpuFrame .reti s) := by
  unfold State.dispatchInterrupt
  refine ifNext_reading (ifNext_ite (ifNext_refused _) ?_)
  refine CpuFrame.refl.tick.pushWord rfl fun u h => CpuFrame.finish (CpuFrame.setPc (CpuFrame.tick ?_) _)
  exact (h.setIme .disabled rfl).of_cpu_eq rfl

theorem State.idleHalted_live {s : State} (h : s.cpu.run = .halted) : s.idleHalted.live := by
  unfold State.idleHalted State.live
  split
  · exact ⟨nofun, nofun⟩
  · rw [State.tick_cpu, h]
    exact ⟨nofun, nofun⟩

theorem step_of_halted {s : State} (h : s.cpu.run = .halted) : step s = .next s.idleHalted := by unfold step; rw [h]

theorem step_of_switching {s : State} {n : Nat} (h : s.cpu.run = .switching n) : step s = .next (s.idleSwitching n) := by
  unfold step; rw [h]

theorem step_of_faulted {s : State} {c : FaultCause} (h : s.cpu.run = .faulted c) : step s = s.faults c := by unfold step; rw [h]

theorem step_of_refused {s : State} {c : RefusalCause} (h : s.cpu.run = .refused c) : step s = s.refuses c := by unfold step; rw [h]

theorem step_of_running {s : State} (h : s.cpu.run = .running) :
    step s = if s.takesInterrupt then s.dispatchInterrupt else s.fetchInstr fun i t => promote s.cpu.ime (exec i t) := by
  unfold step; rw [h]

/-- An instruction or a dispatch leaves the CPU neither Faulted nor Refused, if it leaves a next state. -/
theorem step_live_of_running {s : State} (h : s.cpu.run = .running) : IfNext (step s) State.live := by
  have hs := State.live_of_running h
  rw [step_of_running h]
  refine ifNext_ite ((dispatchInterrupt_frame s).mono fun t ht => hs.of_run_eq (ht.run rfl)) ?_
  refine ifNext_fetchInstr fun i t e => promote_live ?_ _
  rw [exec_form]
  exact form_live _ (hs.of_run_eq e)

theorem step_live (s : State) : IfNext (step s) State.live := by
  cases h : s.cpu.run with
  | running => exact step_live_of_running h
  | halted =>
    rw [step_of_halted h]
    exact ifNext_next.2 (State.idleHalted_live h)
  | switching n =>
    rw [step_of_switching h]
    exact ifNext_next.2 (State.setRun_switchingMode_live _ _)
  | faulted c =>
    rw [step_of_faulted h]
    exact ifNext_fault _
  | refused c =>
    rw [step_of_refused h]
    exact ifNext_refused _

/-- A halted CPU's idle M-cycle, as one update of the ticked state. -/
theorem State.idleHalted_eq {s : State} (h : s.cpu.run = .halted) :
    s.idleHalted = (s.ticks 1).withCpu { s.cpu with run := if (s.ticks 1).irq.pending then .running else .halted } := by
  unfold State.idleHalted
  rw [← State.tick_eq_ticks, ← h]
  split <;> rfl

theorem switchingMode_sub_four (n : Nat) : switchingMode (n - 4) = if n ≤ 4 then .running else .switching (n - 4) := by
  unfold switchingMode
  simp only [Nat.sub_eq_zero_iff_le]

/-- A fault is repeated from the state it leaves. -/
theorem step_fault_left {s : State} {f : Fault} (h : step s = .fault f) :
    (∃ c, f.left.cpu.run = .faulted c) ∧ step f.left = .fault f := by
  have hstops := step_stops s
  generalize step s = r at h hstops
  cases hstops with
  | next t => cases h
  | faults t c =>
    rw [State.faults_left h]
    exact ⟨⟨c, rfl⟩, by rw [step_of_faulted rfl, State.faults_setRun, h]⟩
  | refuses t c => cases c <;> cases h

/-- A refusal is repeated from the state it leaves. -/
theorem step_refused_left {s : State} {q : Refusal} (h : step s = .refused q) :
    ∃ t, q.left = some t ∧ (∃ c, t.cpu.run = .refused c) ∧ step t = .refused q := by
  have hstops := step_stops s
  generalize step s = r at h hstops
  cases hstops with
  | next t => cases h
  | faults t c => cases c <;> cases h
  | refuses t c => exact ⟨_, State.refuses_left h, ⟨c, rfl⟩, by rw [step_of_refused rfl, State.refuses_setRun, h]⟩

end Sys2Proof.Machine
end

section
/-! SUPPORT. The flags of F (10_state.md R23). -/

namespace Sys2Proof.Machine

/-- The low nibble of F is a property every operation of a step keeps. -/
theorem kept_flagsWf : Kept State.flagsWf where
  tick _ h := h
  write s a v _ h := by
    unfold State.flagsWf
    rw [State.writeByte_cpu]
    exact h
  cpu s c hc h := by
    obtain ⟨hf | hf, -⟩ := hc
    · unfold State.flagsWf
      rw [State.withCpu_cpu, hf]
      exact h
    · exact hf
  acknowledge _ _ h := h
  speed _ h := h

end Sys2Proof.Machine
end

section
/-! SUPPORT. The state after reset (10_state.md R60 to R62). -/

namespace Sys2Proof.Machine

theorem State.postBoot_cpu (cfg : Params) (hc : Bool) (mem : Memory) :
    (State.postBoot cfg hc mem).cpu = Cpu.postBoot (cfg.postBoot.row cfg.device cfg.cgbMode) hc := rfl

/-- Every row of the default table has the same SP and pc. -/
theorem default_row_sp_pc (device : Device) (cgbMode : Bool) :
    (PostBoot.default.row device cgbMode).sp = 0xFFFE ∧ (PostBoot.default.row device cgbMode).pc = 0x0100 := by
  cases device <;> cases cgbMode <;> exact ⟨rfl, rfl⟩

end Sys2Proof.Machine
end

section
/-! The obligations about the state (10_state.md). -/

namespace Sys2Proof.Machine

/-- Settles O41: every operation a step is made of keeps F's low nibble 0. -/
theorem flagsStayWellFormed : Obligations.FlagsStayWellFormed := by
  unfold Obligations.FlagsStayWellFormed
  exact fun s t h e => kept_flagsWf.step h t e

/-- Settles O7: the idle steps by their definitions, the stops by the state each carries, the next states by the run mode's frame. -/
theorem idleSteps : Obligations.IdleSteps := by
  unfold Obligations.IdleSteps
  refine ⟨fun s h => ?_, fun s n h => ?_, fun s f => step_fault_left, fun s q => step_refused_left, fun s t => step_live s t⟩
  · rw [step_of_halted h, State.idleHalted_eq h]
  · rw [step_of_switching h, State.idleSwitching, switchingMode_sub_four]
    rfl

/-- Settles O34, from the frame of every instruction. -/
theorem frameRegisters : Obligations.FrameRegisters := by
  unfold Obligations.FrameRegisters
  exact fun i s t hi h => ⟨(exec_frame hi h).reg, (exec_frame hi h).sp⟩

/-- Settles O35, from the frame of every instruction. -/
theorem frameFlags : Obligations.FrameFlags := by
  unfold Obligations.FrameFlags
  exact fun i s t hi hw hf h => (exec_frame hi h).flags hw hf

/-- Settles O36, from the frame of every instruction; of the two that write the run mode, STOP never leaves it Halted. -/
theorem frameControl : Obligations.FrameControl := by
  unfold Obligations.FrameControl
  intro i s t hi h
  have hframe := exec_frame hi h
  refine ⟨hframe.ime, hframe.run, hframe.haltBug, fun hhalted hnot => ?_⟩
  rw [exec_form] at h
  cases hform : i.form with
  | halt => exact eq_halt_of_form hform
  | stop n =>
    rw [hform] at h
    exact absurd hhalted (stop_not_halted n s t h)
  | _ =>
    rw [hform] at hframe
    exact absurd (hframe.run rfl ▸ hhalted) hnot

/-- Settles O49, invariant by invariant. -/
theorem invariantsAtReset : Obligations.InvariantsAtReset := by
  unfold Obligations.InvariantsAtReset
  refine ⟨?mem, ?frame, ?flags, ?position, ?dacs, ?dma, ?banks, ?ram, ?written, ?fault⟩
  case mem => exact ⟨.nil, nofun⟩
  case frame => exact ⟨.nil, nofun⟩
  case flags => rfl
  case position => exact ⟨by decide, by decide, rfl⟩
  case dacs => exact ⟨fun _ => rfl, nofun, nofun, nofun⟩
  case dma => exact nofun
  case banks => exact ⟨by decide, by decide⟩
  case ram => exact nofun
  case written => exact rfl
  case fault => exact nofun

/-- Settles O50, device by device. -/
theorem resetRegisters : Obligations.ResetRegisters := by
  unfold Obligations.ResetRegisters
  intro cfg hc mem htable
  rw [State.postBoot_cpu, htable]
  obtain ⟨hsp, hpc⟩ := default_row_sp_pc cfg.device cfg.cgbMode
  refine ⟨hsp, hpc, rfl, rfl, rfl, ?dmg, ?mgb, ?sgb, ?sgb2, ?cgb, ?cgbCompat⟩
  case cgb | cgbCompat => intro hdevice hmode; rw [hdevice, hmode]; cases hc <;> decide
  all_goals intro hdevice; simp only [hdevice, PostBoot.row]; cases hc <;> decide

/-- Settles O51, register by register. -/
theorem resetIoReads : Obligations.ResetIoReads := by
  unfold Obligations.ResetIoReads
  intro p hp
  fin_cases hp <;> dsimp only <;> decide

end Sys2Proof.Machine
end

section
/-! SUPPORT. The memory map (20_memory.md R74), range by range, and what a write changes of the fields the map reads. -/

namespace Sys2Proof.Machine

/-! ### The map -/

/-- The map looks at the parameters and the bank registers alone. -/
theorem State.key_congr {s t : State} (hcfg : t.cfg = s.cfg) (hbus : t.bus = s.bus) (b : Word) : t.key b = s.key b := by
  unfold State.key State.wramKey State.wramBank State.vramBank
  rw [hcfg, hbus]

/-- From OAM up the map is the same in every state. -/
theorem State.key_of_ge_oam {b : Word} (hb : 0xFE00 ≤ b) (s t : State) : s.key b = t.key b := by
  have hb' : 0xFE00 ≤ b.toNat := by bv_omega
  unfold State.key
  simp only [show ¬ b.toNat < 0x8000 by omega, show ¬ b.toNat < 0xA000 by omega, show ¬ b.toNat < 0xC000 by omega,
    show ¬ b.toNat < 0xE000 by omega, show ¬ b.toNat < 0xFE00 by omega, if_false]

theorem State.key_rom {s : State} {c : Cart} (hc : s.cfg.cart = some c) {a : Word} (ha : a < 0x8000)
    (hboot : ¬ (a < 0x0100 ∧ s.bus.bootMapped = true)) : s.key a = some (c.romKey s.bus a.toNat) := by
  have ha' : a.toNat < 0x8000 := by bv_omega
  have hboot' : ¬ ((decide (a.toNat < 0x0100) && s.bus.bootMapped) = true) := by
    rw [Bool.and_eq_true, decide_eq_true_iff]
    exact fun h => hboot ⟨by bv_omega, h.2⟩
  unfold State.key
  simp only [ha', hboot', if_true, hc, Option.map_some]
  rfl

theorem State.key_vram (s : State) {a : Word} (h1 : 0x8000 ≤ a) (h2 : a < 0xA000) :
    s.key a = some (vramBase + 0x2000 * s.vramBank + (a.toNat - 0x8000)) := by
  unfold State.key
  simp only [show ¬ a.toNat < 0x8000 by bv_omega, show a.toNat < 0xA000 by bv_omega, if_true, if_false]

theorem State.key_wram (s : State) {a : Word} (h1 : 0xC000 ≤ a) (h2 : a < 0xE000) : s.key a = some (s.wramKey a.toNat) := by
  unfold State.key
  simp only [show ¬ a.toNat < 0x8000 by bv_omega, show ¬ a.toNat < 0xA000 by bv_omega, show ¬ a.toNat < 0xC000 by bv_omega,
    show a.toNat < 0xE000 by bv_omega, if_true, if_false]

/-- Echo RAM selects the cell of work RAM 0x2000 below (20_memory.md R83). -/
theorem State.key_echo (s : State) {a : Word} (h1 : 0xE000 ≤ a) (h2 : a < 0xFE00) : s.key a = s.key (a - 0x2000) := by
  rw [s.key_wram (a := a - 0x2000) (by bv_omega) (by bv_omega), show (a - 0x2000).toNat = a.toNat - 0x2000 by bv_omega]
  unfold State.key
  simp only [show ¬ a.toNat < 0x8000 by bv_omega, show ¬ a.toNat < 0xA000 by bv_omega, show ¬ a.toNat < 0xC000 by bv_omega,
    show ¬ a.toNat < 0xE000 by bv_omega, show a.toNat < 0xFE00 by bv_omega, if_true, if_false]

theorem State.key_hram (s : State) {a : Word} (h1 : 0xFF80 ≤ a) (h2 : a < 0xFFFF) :
    s.key a = some (hramBase + (a.toNat - 0xFF80)) := by
  unfold State.key
  simp only [show ¬ a.toNat < 0x8000 by bv_omega, show ¬ a.toNat < 0xA000 by bv_omega, show ¬ a.toNat < 0xC000 by bv_omega,
    show ¬ a.toNat < 0xE000 by bv_omega, show ¬ a.toNat < 0xFE00 by bv_omega, show ¬ a.toNat < 0xFEA0 by bv_omega,
    show ¬ a.toNat < 0xFF80 by bv_omega, show a.toNat < 0xFFFF by bv_omega, if_true, if_false]

/-! ### The access lock (20_memory.md R98) -/

/-- The lock covers VRAM, OAM and palette data alone. -/
theorem State.locked_eq_false (s : State) {a : Word} (h : a < 0x8000 ∨ (0xA000 ≤ a ∧ a < 0xFE00) ∨ 0xFF80 ≤ a) :
    s.locked a = false := by
  have hvram : ¬ (0x8000 ≤ a ∧ a < 0xA000) := by bv_omega
  have hoam : ¬ (0xFE00 ≤ a ∧ a < 0xFEA0) := by bv_omega
  have hbg : (a == 0xFF69) = false := beq_eq_false_iff_ne.2 (by bv_omega)
  have hobj : (a == 0xFF6B) = false := beq_eq_false_iff_ne.2 (by bv_omega)
  unfold State.locked
  rw [← Bool.decide_and, ← Bool.decide_and, decide_eq_false hvram, decide_eq_false hoam, hbg, hobj]
  simp only [Bool.or_self, Bool.and_false]

theorem State.readByte_of_unlocked {s : State} {a : Word} (h : s.locked a = false) : s.readByte a = s.readRouted a := by
  simp [State.readByte, h]

theorem State.writeByte_of_unlocked {s : State} {a : Word} (h : s.locked a = false) (v : Byte) :
    s.writeByte a v = s.writeRouted a v := by
  simp [State.writeByte, h]

theorem State.readByte_of_locked {s : State} {a : Word} (h : s.locked a = true) : s.readByte a = 0xFF := by
  simp [State.readByte, h]

theorem State.writeByte_of_locked {s : State} {a : Word} (h : s.locked a = true) (v : Byte) : s.writeByte a v = s := by
  simp [State.writeByte, h]

/-! ### Routed accesses -/

/-- Outside the cartridge RAM window a cell reads as the byte it holds. -/
theorem State.readKey_eq (s : State) {a : Word} (h : ¬ (0xA000 ≤ a ∧ a < 0xC000)) (k : Nat) : s.readKey a k = s.mem.read k := by
  unfold State.readKey
  split
  · rw [← Bool.decide_and, decide_eq_false h, if_neg Bool.false_ne_true]
  · rfl

/-- Outside the cartridge RAM window a write stores the byte as it is. -/
theorem State.storedValue_eq (s : State) {a : Word} (h : ¬ (0xA000 ≤ a ∧ a < 0xC000)) (v : Byte) : s.storedValue a v = v := by
  unfold State.storedValue
  split
  · rw [← Bool.decide_and, decide_eq_false h, if_neg Bool.false_ne_true]
  · rfl

theorem State.writeRouted_rom (s : State) {a : Word} (h : a < 0x8000) (v : Byte) :
    s.writeRouted a v = { s with bus := s.bus.controllerWrite s.cfg.cart a.toNat v } := by
  rw [State.writeRouted, if_pos h]

/-- A read of an unlocked cell outside the cartridge RAM window gives the byte it holds. -/
theorem State.readByte_of_cell {s : State} {a : Word} (hlocked : s.locked a = false) {k : Nat} (hk : s.key a = some k)
    (hwindow : ¬ (0xA000 ≤ a ∧ a < 0xC000)) : s.readByte a = s.mem.read k := by
  rw [State.readByte_of_unlocked hlocked, State.readRouted, hk]
  exact s.readKey_eq hwindow k

/-- A write of an unlocked cell outside the cartridge RAM window changes that cell and nothing else. -/
theorem State.writeByte_of_cell {s : State} {a : Word} (hlocked : s.locked a = false) (ha : 0x8000 ≤ a) {k : Nat}
    (hk : s.key a = some k) (hwindow : ¬ (0xA000 ≤ a ∧ a < 0xC000)) (v : Byte) :
    s.writeByte a v = { s with mem := s.mem.write k v } := by
  rw [State.writeByte_of_unlocked hlocked, State.writeRouted, if_neg (BitVec.not_lt.2 ha), hk]
  simp only [s.storedValue_eq hwindow]

/-! ### What a write changes of the bank registers, the transfer and the picture -/

/-- A write between ROM and I/O changes no bank register. -/
theorem State.writeByte_bus_of_ram (s : State) {a : Word} (h1 : 0x8000 ≤ a) (h2 : a < 0xFF00) (v : Byte) :
    (s.writeByte a v).bus = s.bus := by
  unfold State.writeByte State.writeRouted
  simp only [BitVec.not_lt.2 h1, h2, if_true, if_false]
  repeat' split
  all_goals rfl

/-- The cartridge's registers are not the VRAM bank. -/
theorem Bus.controllerWrite_vramBank (b : Bus) (cart : Option Cart) (a : Nat) (v : Byte) :
    (b.controllerWrite cart a v).vramBank = b.vramBank := by
  unfold Bus.controllerWrite
  repeat' split
  all_goals rfl

/-- One address follows the other. -/
def Adjacent (a b : Word) : Prop := b = a + 1 ∨ a = b + 1

/-- A write does not move the cell a neighbouring address selects: the bank registers lie below 0x8000 and above 0xFF00, and the
addresses just beside those ranges do not depend on the registers written there. -/
theorem State.writeByte_key_adjacent (s : State) {a b : Word} (hab : Adjacent a b) (hb : 0x8000 ≤ b) (v : Byte) :
    (s.writeByte a v).key b = s.key b := by
  unfold Adjacent at hab
  by_cases hhigh : 0xFE00 ≤ b
  · exact State.key_of_ge_oam hhigh _ _
  by_cases hrom : a < 0x8000
  · have hlast : b < 0xA000 := by bv_omega
    rw [State.key_vram _ hb hlast, State.key_vram _ hb hlast, State.writeByte_of_unlocked (s.locked_eq_false (.inl hrom)),
      s.writeRouted_rom hrom]
    simp only [State.vramBank, Bus.controllerWrite_vramBank]
  · exact State.key_congr (s.writeByte_cfg a v) (s.writeByte_bus_of_ram (by bv_omega) (by bv_omega) v) b

/-- A write changes OAM DMA only by starting it, at its register (20_memory.md R95). -/
theorem State.writeByte_dma (s : State) (a : Word) (v : Byte) :
    (s.writeByte a v).dma = s.dma ∨ a = 0xFF46 ∧ (s.writeByte a v).dma = .transferring (mkWord v 0) 0 0 := by
  unfold State.writeByte State.writeRouted State.writeIo State.ifCgb
  repeat' split
  any_goals exact .inl rfl
  next haddr => exact .inr ⟨BitVec.eq_of_toNat_eq haddr, rfl⟩

/-- A write of the DMA register that is not refused has a source of at most 0xDF (20_memory.md R95). -/
theorem State.writeRefusal_dmaSource {s : State} {v : Byte} (h : s.writeRefusal 0xFF46 v = none) : v ≤ 0xDF := by
  by_contra hv
  have hio : ¬ ((s.dmaActive && decide ((0xFF46 : Word) < 0xFF00)) = true) := by simp
  rw [State.writeRefusal, if_neg hio, if_pos ⟨rfl, BitVec.not_le.1 hv⟩] at h
  cases h

/-- No write draws a pixel. -/
theorem State.writeByte_frame (s : State) (a : Word) (v : Byte) : (s.writeByte a v).ppu.frame = s.ppu.frame := by
  have hlcdc : (s.writeLcdc v).ppu.frame = s.ppu.frame := by
    unfold State.writeLcdc Machine.writeLcdc
    simp only
    repeat' split
    all_goals rfl
  unfold State.writeByte State.writeRouted State.writeIo State.ifCgb
  repeat' split
  any_goals rfl
  exact hlcdc

theorem Mbc2.write_romBank {m : Mbc2} (h : m.romBank ≠ 0) (a : Nat) (v : Byte) : (m.write a v).romBank ≠ 0 := by
  unfold Mbc2.write
  split
  · split
    · exact h
    · show (if v.setWidth 4 = (0 : BitVec 4) then 1 else v.setWidth 4) ≠ (0 : BitVec 4)
      split
      · decide
      · assumption
  · exact h

/-- No write makes MBC2's bank register 0 (20_memory.md R91). -/
theorem State.writeByte_romBank {s : State} (h : s.bus.mbc2.romBank ≠ 0) (a : Word) (v : Byte) :
    (s.writeByte a v).bus.mbc2.romBank ≠ 0 := by
  unfold State.writeByte State.writeRouted State.writeIo State.ifCgb Bus.controllerWrite
  repeat' split
  any_goals exact h
  exact Mbc2.write_romBank h _ _

end Sys2Proof.Machine
end

section
/-! SUPPORT. Invariants of memory and the bus that every operation of a step keeps (`Kept`). -/

namespace Sys2Proof.Machine

/-! ### The stores (notes/assumptions/6.md) -/

theorem drawDot_frame_wf (cfg : Params) (mem : Memory) {p : Ppu} (h : SparseWf blankPixel p.frame) :
    SparseWf blankPixel (drawDot cfg mem p).frame := by
  unfold drawDot
  simp only
  split
  · exact SparseWf.write h _ _
  · exact h

theorem beginNextLine_frame (r : PpuIrq) : (beginNextLine r).1.frame = r.1.frame := by
  unfold beginNextLine enterLine
  simp only
  repeat' split
  all_goals rfl

theorem visibleDot_frame_wf (cfg : Params) (mem : Memory) {r : PpuIrq} (h : SparseWf blankPixel r.1.frame) :
    SparseWf blankPixel (visibleDot cfg mem r).1.frame := by
  have hentered : SparseWf blankPixel (if r.1.clock = 80 then enterDrawLine cfg mem r else r).1.frame := by
    split
    · exact h
    · exact h
  unfold visibleDot
  generalize (if r.1.clock = 80 then enterDrawLine cfg mem r else r) = entered at hentered
  simp only
  split
  · exact h
  split
  · exact drawDot_frame_wf cfg mem hentered
  split
  · exact hentered
  · exact hentered

theorem ppuDot_frame_wf (cfg : Params) (mem : Memory) {r : PpuIrq} (h : SparseWf blankPixel r.1.frame) :
    SparseWf blankPixel (ppuDot cfg mem r).1.frame := by
  unfold ppuDot
  simp only
  split
  · exact h
  split
  · rw [beginNextLine_frame]; exact h
  split
  · exact visibleDot_frame_wf (r := ({ r.1 with clock := r.1.clock + 1 }, r.2)) cfg mem h
  · exact h

theorem ppuRun_frame_wf (cfg : Params) (mem : Memory) (n : Nat) {r : PpuIrq} (h : SparseWf blankPixel r.1.frame) :
    SparseWf blankPixel (ppuRun cfg mem n r).1.frame := by
  induction n generalizing r with
  | zero => exact h
  | succ n ih => exact ih (ppuDot_frame_wf cfg mem h)

theorem State.tick_ppu (s : State) : s.tick.ppu = (ppuRun s.cfg s.dmaMem s.normalT (s.ppu, s.irq)).1 := rfl

/-- Memory and the framebuffer are in canonical form. -/
def State.storesWf (s : State) : Prop := s.mem.wf ∧ SparseWf blankPixel s.ppu.frame

theorem kept_storesWf : Kept State.storesWf where
  tick s h := ⟨State.dmaMem_wf h.1, by rw [State.tick_ppu]; exact ppuRun_frame_wf _ _ _ h.2⟩
  write s a v _ h := ⟨State.writeByte_wf h.1 a v, by rw [State.writeByte_frame]; exact h.2⟩
  cpu _ _ _ h := h
  acknowledge _ _ h := h
  speed _ h := h

/-! ### OAM DMA (20_memory.md R95, R96) -/

/-- A transfer goes on from the same start, with bytes left to copy. -/
theorem Dma.advance_transferring {cfg : Params} {d : Dma} {start : Word} {next rem : Nat}
    (h : d.advance cfg = .transferring start next rem) : next < 160 ∧ ∃ n r, d = .transferring start n r := by
  cases d with
  | disabled => cases h
  | transferring start' n r =>
    unfold Dma.advance at h
    simp only at h
    split at h
    · cases h
    · next hlt =>
      cases h
      exact ⟨Nat.lt_of_not_le hlt, n, r, rfl⟩

theorem mkWord_zero_toNat (v : Byte) : (mkWord v 0).toNat = 256 * v.toNat := by
  unfold mkWord
  rw [BitVec.toNat_append, Nat.shiftLeft_eq, show (0 : Byte).toNat = 0 from rfl, Nat.or_zero, Nat.mul_comm]

theorem kept_dmaWf : Kept State.dmaWf where
  tick s h start next rem e := by
    obtain ⟨hnext, n, r, hd⟩ := Dma.advance_transferring e
    exact ⟨hnext, (h start n r hd).2⟩
  write s a v hr h start next rem e := by
    obtain hsame | ⟨rfl, hstart⟩ := s.writeByte_dma a v
    · exact h start next rem (hsame ▸ e)
    · rw [hstart] at e
      cases e
      have hv : v ≤ 0xDF := State.writeRefusal_dmaSource hr
      exact ⟨by omega, by rw [mkWord_zero_toNat]; bv_omega⟩
  cpu _ _ _ h := h
  acknowledge _ _ h := h
  speed _ h := h

/-! ### The bank registers, the parameters and images, the boot ROM's mapping and the pressed set -/

/-- MBC1's and MBC2's bank registers stay other than 0 (20_memory.md R89, R91). -/
theorem kept_banksWf : Kept fun s => s.bus.banksWf where
  tick _ h := h
  write _ a v _ h := ⟨State.writeByte_bank1 h.1 a v, State.writeByte_romBank h.2 a v⟩
  cpu _ _ _ h := h
  acknowledge _ _ h := h
  speed _ h := h

/-- What `s` fixes of the hardware stays (20_memory.md R85). -/
theorem kept_sameHardware {s : State} (hs : s.cfg.ramFits) : Kept (SameHardware s) where
  tick t h := ⟨h.params, fun k hk => (t.tick_images hk).trans (h.images k hk)⟩
  write t a v _ h :=
    ⟨(t.writeByte_cfg a v).trans h.params,
     fun k hk => (State.writeByte_images (h.params ▸ hs) a v hk).trans (h.images k hk)⟩
  cpu _ _ _ h := ⟨h.params, h.images⟩
  acknowledge _ _ h := ⟨h.params, h.images⟩
  speed _ h := ⟨h.params, h.images⟩

/-- The boot ROM is mapped only if it was in `s`, and the pressed set is that of `s` (20_memory.md R79, 60_exceptions.md R394). -/
theorem kept_bootMapped_pressed (s : State) :
    Kept fun t => (t.bus.bootMapped = true → s.bus.bootMapped = true) ∧ t.joypad.pressed = s.joypad.pressed where
  tick _ h := h
  write t a v _ h := ⟨fun hm => h.1 (t.writeByte_bootMapped a v hm), (t.writeByte_pressed a v).trans h.2⟩
  cpu _ _ _ h := h
  acknowledge _ _ h := h
  speed _ h := h

end Sys2Proof.Machine
end

section
/-! SUPPORT. What an instruction does to the bus, said once: device ticks and granted writes, at the addresses `Form.stores` gives, in their order. -/

namespace Sys2Proof.Machine

/-- `Stored s l t`: from `s` to `t` there are device ticks, changes of the CPU's own registers, and granted writes at the addresses `l`, in their order. -/
inductive Stored (s : State) : List Word → State → Prop where
  | refl : Stored s [] s
  | tick {l : List Word} {t : State} (h : Stored s l t) : Stored s l t.tick
  | cpu {l : List Word} {t : State} (h : Stored s l t) (c : Cpu) : Stored s l (t.withCpu c)
  | write {l : List Word} {t : State} (h : Stored s l t) (a : Word) (v : Byte) (granted : t.writeRefusal a v = none) :
      Stored s (l ++ [a]) (t.writeByte a v)

namespace Stored

variable {s t : State} {l : List Word}

/-! ### The state operations -/

theorem setPair (h : Stored s l t) (rr : R16) (v : Word) : Stored s l (t.setPair rr v) := by
  cases rr with
  | bc => exact (h.cpu _).cpu _
  | de => exact (h.cpu _).cpu _
  | hl => exact (h.cpu _).cpu _
  | sp => exact h.cpu _

theorem setStkPair (h : Stored s l t) (rr : R16Stk) (v : Word) : Stored s l (t.setStkPair rr v) := by
  cases rr with
  | bc => exact h.setPair .bc v
  | de => exact h.setPair .de v
  | hl => exact h.setPair .hl v
  | af => exact (h.cpu _).cpu _

theorem setReg_setF (h : Stored s l t) (r : R8) (v f : Byte) : Stored s l ((t.setReg r v).setF f) := (h.cpu _).cpu _

theorem setF (h : Stored s l t) (f : Byte) : Stored s l (t.setF f) := h.cpu _

/-! ### The M-cycles -/

theorem finish (h : Stored s l t) : IfNext (finish t) (Stored s l) := ifNext_next.2 h.tick

theorem readNext (h : Stored s l t) {l' : List Word} {a : Word} {k : Byte → State → Result}
    (hk : ∀ v u, Stored s l u → IfNext (k v u) (Stored s l')) : IfNext (t.readNext a k) (Stored s l') :=
  ifNext_readNext (hk _ _ h.tick)

theorem writeNext (h : Stored s l t) {l' : List Word} {a : Word} {v : Byte} {k : State → Result}
    (hk : ∀ u, Stored s (l ++ [a]) u → IfNext (k u) (Stored s l')) : IfNext (t.writeNext a v k) (Stored s l') :=
  ifNext_writeNext fun granted => hk _ (h.tick.write a v granted)

/-- A last M-cycle that writes. -/
theorem store (h : Stored s l t) {a : Word} {v : Byte} : IfNext (t.writeNext a v Machine.finish) (Stored s (l ++ [a])) :=
  h.writeNext fun _ => finish

theorem pushWord (h : Stored s l t) {l' : List Word} {v : Word} {k : State → Result}
    (hk : ∀ u, Stored s (l ++ [t.cpu.sp - 1] ++ [t.cpu.sp - 2]) u → IfNext (k u) (Stored s l')) :
    IfNext (t.pushWord v k) (Stored s l') :=
  ifNext_reading ((h.cpu _).writeNext fun _ h1 => (h1.cpu _).writeNext hk)

theorem popWord (h : Stored s l t) {l' : List Word} {k : Word → State → Result}
    (hk : ∀ v u, Stored s l u → IfNext (k v u) (Stored s l')) : IfNext (t.popWord k) (Stored s l') :=
  ifNext_reading (h.readNext fun _ _ h1 => (h1.cpu _).readNext fun _ _ h2 => hk _ _ (h2.cpu _))

theorem hlOperand (h : Stored s l t) {l' : List Word} {k : Byte → State → Result}
    (hk : ∀ v u, Stored s l u → IfNext (k v u) (Stored s l')) : IfNext (t.hlOperand k) (Stored s l') :=
  ifNext_reading (h.readNext hk)

theorem modifyHl (h : Stored s l t) {rs : List RegName} {g : Byte → State → Byte × State}
    (hg : ∀ v u, Stored s l u → Stored s l (g v u).2) : IfNext (t.modifyHl rs g) (Stored s (l ++ [t.hl])) :=
  h.hlOperand fun v u hu => ifNext_reading (hg v u hu).store

/-! ### Calls and returns -/

theorem call (h : Stored s l t) (nn : Word) : IfNext (call nn t) (Stored s (l ++ [t.cpu.sp - 1] ++ [t.cpu.sp - 2])) :=
  h.tick.pushWord fun _ h1 => (h1.cpu _).finish

theorem ret (h : Stored s l t) : IfNext (ret t) (Stored s l) := h.popWord fun _ _ h1 => (h1.tick.cpu _).finish

theorem returnFromInterrupt (h : Stored s l t) : IfNext t.returnFromInterrupt (Stored s l) := by
  unfold State.returnFromInterrupt
  exact h.popWord fun _ _ h1 => (h1.tick.cpu _).finish

end Stored

/-- `CALL cc` stores where it is taken. -/
theorem stores_callCc (cc : Cond) (nn : Word) (s : State) :
    (Form.callCc cc nn).stores s = if s.cond cc then [s.cpu.sp - 1, s.cpu.sp - 2] else [] := rfl

/-- Every form but STOP, which may switch the speed, and the byte 0xCB alone, which is no instruction, stores at the addresses of `Form.stores`. -/
theorem form_stored {f : Form} (hstop : ∀ n, f ≠ .stop n) (hcb : f ≠ .cbPage) (s : State) :
    IfNext (f.run s) (Stored s (f.stores s)) := by
  have h : Stored s [] s := .refl
  unfold Form.run
  cases f with
  -- 40_load.md
  | ldRegReg dst src => exact ifNext_reading (h.cpu _).finish
  | ldRegImm dst n => exact (h.cpu _).finish
  | ldRegMem dst => exact h.hlOperand fun _ _ h1 => (h1.cpu _).finish
  | ldMemReg src => exact ifNext_reading h.store
  | ldMemImm n => exact ifNext_reading h.store
  | ldAPtr p => exact ifNext_reading (h.readNext fun _ _ h1 => (h1.cpu _).finish)
  | ldPtrA p => exact ifNext_reading h.store
  | ldAAbs nn => exact h.readNext fun _ _ h1 => (h1.cpu _).finish
  | ldAbsA nn => exact ifNext_reading h.store
  | ldhAC => exact ifNext_reading (h.readNext fun _ _ h1 => (h1.cpu _).finish)
  | ldhCA => exact ifNext_reading h.store
  | ldhAImm n => exact h.readNext fun _ _ h1 => (h1.cpu _).finish
  | ldhImmA n => exact ifNext_reading h.store
  | ldAHlInc => exact h.hlOperand fun _ _ h1 => ((h1.cpu _).setPair .hl _).finish
  | ldAHlDec => exact h.hlOperand fun _ _ h1 => ((h1.cpu _).setPair .hl _).finish
  | ldHlIncA => exact ifNext_reading (h.writeNext fun _ h1 => (h1.setPair .hl _).finish)
  | ldHlDecA => exact ifNext_reading (h.writeNext fun _ h1 => (h1.setPair .hl _).finish)
  | ldPairImm rr nn => exact (h.setPair rr nn).finish
  | ldAbsSp nn => exact ifNext_reading (h.writeNext fun _ h1 => h1.store)
  | ldSpHl => exact ifNext_reading (h.tick.cpu _).finish
  | push rr => exact ifNext_reading (h.tick.pushWord fun _ => Stored.finish)
  | pop rr => exact h.popWord fun v _ h1 => (h1.setStkPair rr v).finish
  -- 41_alu8.md
  | aluReg op src => exact ifNext_reading (h.setReg_setF _ _ _).finish
  | aluMem op => exact h.hlOperand fun _ _ h1 => ifNext_reading (h1.setReg_setF _ _ _).finish
  | aluImm op n => exact ifNext_reading (h.setReg_setF _ _ _).finish
  | incReg dst => exact ifNext_reading (h.setReg_setF _ _ _).finish
  | incMem => exact h.modifyHl fun _ _ h1 => h1.setF _
  | decReg dst => exact ifNext_reading (h.setReg_setF _ _ _).finish
  | decMem => exact h.modifyHl fun _ _ h1 => h1.setF _
  | daa => exact ifNext_reading (h.setReg_setF _ _ _).finish
  | cpl => exact ifNext_reading (h.setReg_setF _ _ _).finish
  | scf => exact (h.setF _).finish
  | ccf => exact ifNext_reading (h.setF _).finish
  -- 42_alu16.md
  | incPair rr => exact ifNext_reading (h.tick.setPair rr _).finish
  | decPair rr => exact ifNext_reading (h.tick.setPair rr _).finish
  | addHl rr => exact ifNext_reading ((h.tick.setPair .hl _).setF _).finish
  | addSp e => exact ifNext_reading ((h.tick.tick.cpu _).setF _).finish
  | ldHlSp e => exact ifNext_reading ((h.tick.setPair .hl _).setF _).finish
  -- 43_rotate_shift_bit.md
  | rotA k => exact ifNext_reading (h.setReg_setF _ _ _).finish
  | rotReg k r => exact ifNext_reading (h.setReg_setF _ _ _).finish
  | rotMem k => exact h.modifyHl fun _ _ h1 => h1.setF _
  | bitReg b r => exact ifNext_reading (h.setF _).finish
  | bitMem b => exact h.hlOperand fun _ _ h1 => (h1.setF _).finish
  | resReg b r => exact ifNext_reading (h.cpu _).finish
  | resMem b => exact h.modifyHl fun _ _ h1 => h1
  | setReg b r => exact ifNext_reading (h.cpu _).finish
  | setMem b => exact h.modifyHl fun _ _ h1 => h1
  -- 44_control.md
  | jp nn => exact (h.tick.cpu _).finish
  | jpCc cc nn => exact ifNext_ifCond (h.tick.cpu _).finish h.finish
  | jpHl => exact ifNext_reading (h.cpu _).finish
  | jr e => exact (h.tick.cpu _).finish
  | jrCc cc e => exact ifNext_ifCond (h.tick.cpu _).finish h.finish
  | call nn => exact h.call nn
  | callCc cc nn =>
    refine ifNext_reading ?_
    rw [stores_callCc]
    split
    · exact h.call nn
    · exact h.finish
  | ret => exact h.ret
  | retCc cc => exact ifNext_ifCond h.tick.ret h.tick.finish
  | reti => exact h.returnFromInterrupt
  | rst t => exact h.tick.pushWord fun _ h1 => (h1.cpu _).finish
  -- 45_system.md
  | nop => exact h.finish
  | stop n => exact absurd rfl (hstop n)
  | halt => exact ifNext_ite (h.cpu _).finish (ifNext_ite (ifNext_ite (h.cpu _).finish h.finish) (h.cpu _).finish)
  | di => exact (h.cpu _).finish
  | ei =>
    refine Stored.finish ?_
    split
    · exact h.cpu _
    · exact h
  | illegal op => exact ifNext_fault _
  | cbPage => exact absurd rfl hcb

end Sys2Proof.Machine
end

section
/-! SUPPORT. What follows for memory and the speed from what an instruction does to the bus. -/

namespace Sys2Proof.Machine

/-- The addresses an instruction stores to lie side by side. -/
theorem stores_pairwise_adjacent (f : Form) (s : State) : (f.stores s).Pairwise Adjacent := by
  have hpush (sp : Word) : [sp - 1, sp - 2].Pairwise Adjacent := List.pairwise_pair.2 (.inr (by bv_omega))
  cases f with
  | ldMemReg | ldMemImm | ldHlIncA | ldHlDecA | incMem | decMem | rotMem | resMem | setMem | ldPtrA | ldAbsA | ldhCA | ldhImmA =>
    exact List.pairwise_singleton _ _
  | ldAbsSp nn => exact List.pairwise_pair.2 (.inl rfl)
  | push | call | rst => exact hpush s.cpu.sp
  | callCc cc nn =>
    rw [stores_callCc]
    split
    · exact hpush s.cpu.sp
    · exact List.Pairwise.nil
  | _ => exact List.Pairwise.nil

/-- A tick keeps every byte, OAM's only while no transfer runs. -/
theorem State.dmaMem_read_of_oam (s : State) {k : Nat} (hoam : isOamKey k → s.dma = .disabled) :
    s.dmaMem.read k = s.mem.read k := by
  refine s.dmaMem_read k ?_
  by_cases hkey : isOamKey k
  · exact .inl (hoam hkey)
  · unfold isOamKey at hkey
    omega

namespace Stored

variable {s t : State} {l : List Word}

/-- Stores beside an address do not move the cell it selects. -/
theorem key_eq (h : Stored s l t) {b : Word} (hb : 0x8000 ≤ b) (hl : ∀ a ∈ l, Adjacent a b) : t.key b = s.key b := by
  induction h with
  | refl => rfl
  | tick _ ih => exact ih hl
  | cpu _ c ih => exact ih hl
  | @write l t _ a v _ ih =>
    have hadj : Adjacent a b := hl a List.mem_concat_self
    rw [t.writeByte_key_adjacent hadj hb v, ih fun x hx => hl x (List.mem_append_left _ hx)]

/-- OAM DMA stays off unless its register is stored to (20_memory.md R95). -/
theorem dma_disabled (h : Stored s l t) (hs : s.dma = .disabled) (hl : 0xFF46 ∉ l) : t.dma = .disabled := by
  induction h with
  | refl => exact hs
  | tick _ ih => rw [State.tick_dma, ih hl]; rfl
  | cpu _ c ih => exact ih hl
  | @write l t _ a v _ ih =>
    obtain hsame | ⟨rfl, -⟩ := t.writeByte_dma a v
    · exact hsame.trans (ih fun hx => hl (List.mem_append_left _ hx))
    · exact absurd List.mem_concat_self hl

/-- A cell no store selects keeps its byte, and so does OAM's while no transfer runs (20_memory.md R96, R99). -/
theorem mem_read (h : Stored s l t) {k : Nat} (hadj : l.Pairwise Adjacent) (hk : ∀ a ∈ l, s.key a ≠ some k)
    (hoam : isOamKey k → s.dma = .disabled ∧ 0xFF46 ∉ l) : t.mem.read k = s.mem.read k := by
  induction h with
  | refl => rfl
  | @tick l t h ih =>
    rw [State.tick_mem, t.dmaMem_read_of_oam fun hkey => h.dma_disabled (hoam hkey).1 (hoam hkey).2, ih hadj hk hoam]
  | cpu _ c ih => exact ih hadj hk hoam
  | @write l t h a v _ ih =>
    obtain ⟨hl, -, hla⟩ := List.pairwise_append.1 hadj
    have hbefore : t.mem.read k = s.mem.read k :=
      ih hl (fun x hx => hk x (List.mem_append_left _ hx)) fun hkey =>
        ⟨(hoam hkey).1, fun hx => (hoam hkey).2 (List.mem_append_left _ hx)⟩
    obtain hsame | ⟨k', hk', ha, hmem⟩ := t.writeByte_mem a v
    · rw [hsame, hbefore]
    · have hne : k ≠ k' := by
        rintro rfl
        exact hk a List.mem_concat_self ((h.key_eq ha fun x hx => hla x hx a (List.mem_singleton_self a)).symm.trans hk')
      rw [hmem, Memory.read_write_other hne, hbefore]

/-- No store changes the speed. -/
theorem doubleSpeed_eq (h : Stored s l t) : t.bus.doubleSpeed = s.bus.doubleSpeed := by
  induction h with
  | refl => rfl
  | tick _ ih => exact ih
  | cpu _ c ih => exact ih
  | write _ a v _ ih => exact (State.writeByte_doubleSpeed _ a v).trans ih

end Stored

/-- STOP keeps every byte, OAM's only while no transfer runs: its speed switch reaches neither memory nor OAM DMA. -/
theorem stop_mem_read (n : Byte) (s : State) {k : Nat} (hoam : isOamKey k → s.dma = .disabled) :
    IfNext (stop n s) fun t => t.mem.read k = s.mem.read k := by
  exact ifNext_ite (ifNext_next.2 (s.switchSpeed.dmaMem_read_of_oam hoam)) (ifNext_refused _)

/-- The byte 0xCB and the opcode after it leave the speed. -/
theorem prefixed_doubleSpeed (s : State) : IfNext (prefixed s) fun t => t.bus.doubleSpeed = s.bus.doubleSpeed := by
  unfold prefixed
  refine ifNext_readNext ?_
  simp only [State.tick_cpu]
  obtain ⟨f, hcb, hrun, e⟩ := cbPage_eq_form (s.tick.readByte s.cpu.pc) (s.tick.setPc (s.cpu.pc + 1))
  have hstop : ∀ n, f ≠ .stop n := by
    rintro n rfl
    cases hrun
  rw [e]
  exact (form_stored hstop hcb _).mono fun t h => h.doubleSpeed_eq

/-- Every form but STOP leaves the speed. -/
theorem form_doubleSpeed {f : Form} (hstop : ∀ n, f ≠ .stop n) (s : State) :
    IfNext (f.run s) fun t => t.bus.doubleSpeed = s.bus.doubleSpeed := by
  by_cases hcb : f = .cbPage
  · subst hcb
    exact prefixed_doubleSpeed s
  · exact (form_stored hstop hcb s).mono fun t h => h.doubleSpeed_eq

theorem eq_stop_of_form {i : Instr} {n : Byte} (h : i.form = .stop n) : i = .stop n := by
  cases i with
  | stop m => cases h; rfl
  | _ => cases h

end Sys2Proof.Machine
end

section
/-! SUPPORT. OAM DMA's bytes (20_memory.md R96). -/

namespace Sys2Proof.Machine

/-- Each byte copied is the source's. -/
theorem dmaCopy_read_copied (s : State) (start : Word) {k j : Nat} (hj : j < k) (n : Nat) (m : Memory) :
    (dmaCopy s start k n m).read (oamBase + n + j) = s.readRouted (start + BitVec.ofNat 16 (n + j)) := by
  induction k generalizing n j m with
  | zero => omega
  | succ k ih =>
    rw [dmaCopy]
    cases j with
    | zero => rw [dmaCopy_read _ _ _ _ _ _ (.inl (by omega)), Nat.add_zero, Nat.add_zero, Memory.read_write_same]
    | succ j =>
      rw [show oamBase + n + (j + 1) = oamBase + (n + 1) + j by omega, show n + (j + 1) = n + 1 + j by omega]
      exact ih (by omega) _ _

/-- At one T-cycle per byte a tick copies four bytes, if as many are left. -/
theorem dmaCount_four {cfg : Params} (hcfg : cfg.dmaTPerByte = 1) {n : Nat} (hn : n + 4 ≤ 160) : dmaCount cfg n 0 = 4 := by
  unfold dmaCount
  rw [hcfg]
  omega

end Sys2Proof.Machine
end

section
/-! SUPPORT. MBC1 (20_memory.md R88, R89): its registers, and the banks behind its two ROM windows. -/

namespace Sys2Proof.Machine

/-- The zero test of the 5-bit field, on the byte written. -/
theorem mbc1Bank_eq (v : Byte) : mbc1Bank v = BitVec.ofNat 5 (if v.toNat % 32 = 0 then 1 else v.toNat % 32) := by
  have hzero : v.setWidth 5 = 0 ↔ v.toNat % 32 = 0 := by rw [← BitVec.toNat_inj, BitVec.toNat_setWidth]; rfl
  unfold mbc1Bank
  simp only [hzero]
  split
  · rfl
  · refine BitVec.eq_of_toNat_eq ?_
    rw [BitVec.toNat_setWidth, BitVec.toNat_ofNat, Nat.mod_mod]

theorem setWidth_two_eq (v : Byte) : v.setWidth 2 = BitVec.ofNat 2 (v.toNat % 4) := by
  refine BitVec.eq_of_toNat_eq ?_
  rw [BitVec.toNat_setWidth, BitVec.toNat_ofNat, Nat.mod_mod]

theorem getLsbD_zero_eq (v : Byte) : v.getLsbD 0 = (v.toNat % 2 == 1) := by
  rw [BitVec.getLsbD, Nat.testBit_zero]
  rfl

theorem Mbc1.write_bank1_range {a : Nat} (h1 : 0x2000 ≤ a) (h2 : a < 0x4000) (m : Mbc1) (v : Byte) :
    m.write a v = { m with bank1 := mbc1Bank v } := by
  rw [Mbc1.write, if_neg (Nat.not_lt.2 h1), if_pos h2]

/-- The two bank fields side by side. -/
theorem bank2_shift_or_bank1 (m : Mbc1) : (m.bank2.toNat <<< 5) ||| m.bank1.toNat = m.bank2.toNat * 32 + m.bank1.toNat := by
  rw [← Nat.shiftLeft_add_eq_or_of_lt m.bank1.isLt, Nat.shiftLeft_eq]

section

variable {s : State} {c : Cart} (hcart : s.cfg.cart = some c) (hc : c.controller = .mbc1)
include hcart

/-- A read of ROM, the mapped boot ROM apart, gives the byte of the cartridge's image. -/
theorem State.readByte_rom {a : Word} (ha : a < 0x8000) (hboot : ¬ (a < 0x0100 ∧ s.bus.bootMapped = true)) :
    s.readByte a = s.mem.read (c.romKey s.bus a.toNat) :=
  State.readByte_of_cell (s.locked_eq_false (.inl ha)) (State.key_rom hcart ha hboot) (by bv_omega)

include hc

/-- A write below 0x8000 reaches MBC1's registers and nothing else. -/
theorem State.writeByte_mbc1 {a : Word} (ha : a < 0x8000) (v : Byte) :
    s.writeByte a v = { s with bus := { s.bus with mbc1 := s.bus.mbc1.write a.toNat v } } := by
  rw [State.writeByte_of_unlocked (s.locked_eq_false (.inl ha)), s.writeRouted_rom ha]
  simp only [Bus.controllerWrite, hcart, hc]

/-- The window below 0x4000 shows the bank of `bank2` in mode 1, and bank 0 in mode 0. -/
theorem State.readByte_mbc1_low {a : Word} (ha : a < 0x4000) (hboot : ¬ (a < 0x0100 ∧ s.bus.bootMapped = true)) :
    s.readByte a =
      s.mem.read (romBase + (if s.bus.mbc1.mode then s.bus.mbc1.bank2.toNat * 32 else 0) % c.romBanks * 0x4000 + a.toNat) := by
  have hbank : c.romBankLow s.bus = (if s.bus.mbc1.mode then s.bus.mbc1.bank2.toNat * 32 else 0) % c.romBanks := by
    simp only [Cart.romBankLow, hc, Nat.shiftLeft_eq]
    split
    · rfl
    · exact (Nat.zero_mod _).symm
  rw [State.readByte_rom hcart (by bv_omega) hboot, Cart.romKey, if_pos (show a.toNat < 0x4000 by bv_omega), hbank]

/-- The window from 0x4000 shows the bank of both fields. -/
theorem State.readByte_mbc1_high {a : Word} (h1 : 0x4000 ≤ a) (h2 : a < 0x8000) :
    s.readByte a = s.mem.read
      (romBase + (s.bus.mbc1.bank2.toNat * 32 + s.bus.mbc1.bank1.toNat) % c.romBanks * 0x4000 + (a.toNat - 0x4000)) := by
  have hbank : c.romBankHigh s.bus = (s.bus.mbc1.bank2.toNat * 32 + s.bus.mbc1.bank1.toNat) % c.romBanks := by
    simp only [Cart.romBankHigh, hc, bank2_shift_or_bank1]
  rw [State.readByte_rom hcart h2 (by bv_omega), Cart.romKey, if_neg (show ¬ a.toNat < 0x4000 by bv_omega), hbank]

end

end Sys2Proof.Machine
end

section
/-! SUPPORT. RAM that reads back (20_memory.md R80, R84, R99). -/

namespace Sys2Proof.Machine

/-- An address of work RAM, echo RAM or high RAM selects a cell, and the lock does not cover it. -/
theorem State.ram_selects_cell (s : State) {a : Word} (h : (0xC000 ≤ a ∧ a < 0xFE00) ∨ (0xFF80 ≤ a ∧ a < 0xFFFF)) :
    s.locked a = false ∧ ∃ k, s.key a = some k := by
  refine ⟨s.locked_eq_false (by bv_omega), ?_⟩
  obtain ⟨h1, h2⟩ | ⟨h1, h2⟩ := h
  · by_cases hecho : 0xE000 ≤ a
    · exact ⟨_, (s.key_echo hecho h2).trans (s.key_wram (by bv_omega) (by bv_omega))⟩
    · exact ⟨_, s.key_wram h1 (BitVec.not_le.1 hecho)⟩
  · exact ⟨_, s.key_hram h1 h2⟩

/-- A memory cell changed changes the reads of the addresses that select it alone. -/
theorem State.readByte_mem_write_other {s : State} {k : Nat} {b : Word} (hb : s.key b ≠ some k) (v : Byte) :
    ({ s with mem := s.mem.write k v } : State).readByte b = s.readByte b := by
  have hlocked : ({ s with mem := s.mem.write k v } : State).locked b = s.locked b := rfl
  have hkey : ({ s with mem := s.mem.write k v } : State).key b = s.key b := rfl
  unfold State.readByte
  rw [hlocked]
  congr 1
  unfold State.readRouted
  rw [hkey]
  cases hkb : s.key b with
  | none => rfl
  | some j =>
    have hne : j ≠ k := fun h => hb (h ▸ hkb)
    simp only [State.readKey, Memory.read_write_other hne]

end Sys2Proof.Machine
end

section
/-! SUPPORT. Which accesses are refused and which are locked (20_memory.md R97, R98). -/

namespace Sys2Proof.Machine

theorem State.dmaActive_and_low {s : State} (hdma : s.dma ≠ .disabled) {a : Word} (ha : a < 0xFF00) :
    (s.dmaActive && decide (a < 0xFF00)) = true := by
  rw [State.dmaActive, bne_iff_ne.2 hdma, decide_eq_true ha]
  rfl

theorem State.readRefusal_of_dma {s : State} (hdma : s.dma ≠ .disabled) {a : Word} (ha : a < 0xFF00) :
    s.readRefusal a = some (.dmaBusConflict a) := by
  rw [State.readRefusal, if_pos (State.dmaActive_and_low hdma ha)]

theorem State.writeRefusal_of_dma {s : State} (hdma : s.dma ≠ .disabled) {a : Word} (ha : a < 0xFF00) (v : Byte) :
    s.writeRefusal a v = some (.dmaBusConflict a) := by
  rw [State.writeRefusal, if_pos (State.dmaActive_and_low hdma ha)]

theorem State.readRefusal_of_high (s : State) {a : Word} (ha : 0xFF00 ≤ a) : s.readRefusal a = none := by
  rw [State.readRefusal, decide_eq_false (BitVec.not_lt.2 ha), Bool.and_false, if_neg Bool.false_ne_true]

theorem State.busRead_refused {s : State} {a : Word} {q : RefusalCause} (h : s.readRefusal a = some q) (k : Byte → Result) :
    s.busRead a k = s.refuses q := by
  rw [State.busRead, h]

/-- A store refused in the next M-cycle leaves the state one device tick on (60_exceptions.md R360). -/
theorem State.writeNext_refused {s : State} {a : Word} {v : Byte} {q : RefusalCause} (h : s.tick.writeRefusal a v = some q)
    (k : State → Result) : s.writeNext a v k = s.tick.refuses q := by
  rw [State.writeNext, State.busWrite, h]

/-- With the lock and the LCD on, DrawLine locks VRAM, OAM and the CGB palette data, OamScan OAM alone. -/
theorem State.locked_of_mode {s : State} {a : Word} (hlock : s.cfg.ppuAccessLock = true) (hlcd : s.ppu.lcdOn = true)
    (h : s.ppu.mode = .drawLine ∧ ((0x8000 ≤ a ∧ a < 0xA000) ∨ (0xFE00 ≤ a ∧ a < 0xFEA0) ∨
        (s.cfg.cgbMode = true ∧ (a = 0xFF69 ∨ a = 0xFF6B))) ∨
      s.ppu.mode = .oamScan ∧ 0xFE00 ≤ a ∧ a < 0xFEA0) : s.locked a = true := by
  unfold State.locked
  rw [hlock, hlcd]
  simp only [Bool.and_eq_true, Bool.or_eq_true, beq_iff_eq, decide_eq_true_iff, true_and]
  obtain ⟨hmode, hvram | hoam | hpalette⟩ | ⟨hmode, hoam⟩ := h
  · exact .inl ⟨hmode, .inl hvram⟩
  · exact .inr ⟨.inl hmode, hoam⟩
  · exact .inl ⟨hmode, .inr hpalette⟩
  · exact .inr ⟨.inr hmode, hoam⟩

end Sys2Proof.Machine
end

section
/-! The obligations about memory and the bus (20_memory.md). -/

namespace Sys2Proof.Machine

/-- Settles O40: every operation a step is made of keeps both canonical forms. -/
theorem storesStayCanonical : Obligations.StoresStayCanonical := by
  unfold Obligations.StoresStayCanonical
  exact fun s t hmem hframe e => kept_storesWf.step ⟨hmem, hframe⟩ t e

/-- Settles O44: a tick ends a transfer at byte 160, and a granted write starts one at 0xDF00 or below. -/
theorem dmaStaysInRange : Obligations.DmaStaysInRange := by
  unfold Obligations.DmaStaysInRange
  exact fun s t h e => kept_dmaWf.step h t e

/-- Settles O45: every operation a step is made of keeps both bank registers other than 0. -/
theorem bankRegistersNeverZero : Obligations.BankRegistersNeverZero := by
  unfold Obligations.BankRegistersNeverZero
  exact fun s t h e => kept_banksWf.step h t e

/-- Settles O46: every operation a step is made of leaves the hardware of the state the step began in. -/
theorem hardwareIsFixed : Obligations.HardwareIsFixed := by
  unfold Obligations.HardwareIsFixed
  exact fun s t hfits e => (kept_sameHardware hfits).step ⟨rfl, fun _ _ => rfl⟩ t e

/-- Settles O47: the boot ROM and the buttons by every operation of a step, the speed by what every form but STOP does to the bus. -/
theorem oneWayState : Obligations.OneWayState := by
  unfold Obligations.OneWayState
  refine ⟨fun s t e => (kept_bootMapped_pressed s).step ⟨id, rfl⟩ t e, fun i s t e hspeed => ?_⟩
  by_contra hnone
  have hstop : ∀ n, i.form ≠ .stop n := fun n h => hnone ⟨n, eq_stop_of_form h⟩
  rw [exec_form] at e
  exact hspeed (form_doubleSpeed hstop s t e)

/-- Settles O37: an instruction is ticks and granted writes at its addresses; neighbours do not move each other's cells. -/
theorem frameMemory : Obligations.FrameMemory := by
  unfold Obligations.FrameMemory
  intro i s t k hi e hk hoam
  have hcb := form_ne_cbPage hi
  rw [exec_form] at e
  by_cases hstop : ∃ n, i.form = .stop n
  · obtain ⟨n, hn⟩ := hstop
    rw [hn] at e
    exact stop_mem_read n s (fun hkey => (hoam hkey).1) t e
  · exact (form_stored (not_exists.1 hstop) hcb s t e).mem_read (stores_pairwise_adjacent _ s) hk hoam

/-- Settles O52: both addresses select one cell, neither is locked, and neither goes through a cartridge's half-byte cells. -/
theorem echoRam : Obligations.EchoRam := by
  unfold Obligations.EchoRam
  intro s a v h1 h2
  have hlocked : s.locked a = false := s.locked_eq_false (by bv_omega)
  have hlocked' : s.locked (a - 0x2000) = false := s.locked_eq_false (by bv_omega)
  have hkey' : s.key (a - 0x2000) = some (s.wramKey (a - 0x2000).toNat) := s.key_wram (by bv_omega) (by bv_omega)
  have hkey : s.key a = some (s.wramKey (a - 0x2000).toNat) := (s.key_echo h1 h2).trans hkey'
  constructor
  · rw [State.readByte_of_cell hlocked hkey (by bv_omega), State.readByte_of_cell hlocked' hkey' (by bv_omega)]
  · rw [State.writeByte_of_cell hlocked (by bv_omega) hkey (by bv_omega),
      State.writeByte_of_cell hlocked' (by bv_omega) hkey' (by bv_omega)]

/-- Settles O53: such a write is a write of the cell the address selects, and nothing else. -/
theorem ramReadsBack : Obligations.RamReadsBack := by
  unfold Obligations.RamReadsBack
  intro s a v ha
  obtain ⟨hlocked, k, hk⟩ := s.ram_selects_cell ha
  have hwrite : s.writeByte a v = { s with mem := s.mem.write k v } :=
    State.writeByte_of_cell hlocked (by bv_omega) hk (by bv_omega) v
  have hread : ({ s with mem := s.mem.write k v } : State).readByte a = (s.mem.write k v).read k :=
    State.readByte_of_cell (s := { s with mem := s.mem.write k v }) hlocked hk (by bv_omega)
  rw [hwrite]
  exact ⟨hread.trans (Memory.read_write_same _ _ _), fun b hb => State.readByte_mem_write_other (hk ▸ hb) v⟩

/-- Settles O54: refusals by the first test of each access, locked accesses by the lock's definition. -/
theorem refusedAndLockedAccesses : Obligations.RefusedAndLockedAccesses := by
  unfold Obligations.RefusedAndLockedAccesses
  refine ⟨fun s hdma => ⟨fun a v ha => ⟨?_, ?_⟩, fun a ha => ?_, fun hrun hint hpc => ?_⟩, fun i src s hi hw hdma hhl => ?_,
    fun s a v hlock hlcd h => ?_⟩
  · exact State.readRefusal_of_dma hdma ha
  · exact State.writeRefusal_of_dma hdma ha v
  · exact s.readRefusal_of_high ha
  · rw [step_of_running hrun, hint, if_neg Bool.false_ne_true]
    unfold State.fetchInstr State.fetchOpcode
    exact State.busRead_refused (s := s.withCpu { s.cpu with opcodeAddr := s.cpu.pc }) (State.readRefusal_of_dma hdma hpc) _
  · rw [exec_of_form hi]
    exact (State.reading_written (s := s.internalNext) hw _ _).trans
      (State.writeNext_refused (State.writeRefusal_of_dma hdma hhl _) _)
  · have hlocked : s.locked a = true := State.locked_of_mode hlock hlcd h
    exact ⟨State.readByte_of_locked hlocked, State.writeByte_of_locked hlocked v⟩

/-- Settles O55: the four bytes one tick copies. -/
theorem dmaCopiesFourBytes : Obligations.DmaCopiesFourBytes := by
  unfold Obligations.DmaCopiesFourBytes
  intro s start n hcfg hdma hn
  have hcount : dmaCount s.cfg n 0 = 4 := dmaCount_four hcfg hn
  have hmem : (s.ticks 1).mem = dmaCopy s start 4 n s.mem := by
    rw [← State.tick_eq_ticks, State.tick_mem, State.dmaMem, hdma]
    simp only [hcount]
  rw [hmem, ← State.tick_eq_ticks, State.tick_dma, hdma]
  refine ⟨fun j hj => dmaCopy_read_copied s start hj n s.mem, fun k hk => dmaCopy_read s start 4 n k s.mem hk, ?_⟩
  simp only [Dma.advance, hcount, hcfg, show 160 ≤ n + 4 ↔ n + 4 = 160 by omega]

/-- Settles O56: MBC1's registers by their ranges, and both windows by the bank each shows. -/
theorem mbc1Banking : Obligations.Mbc1Banking := by
  unfold Obligations.Mbc1Banking
  intro s c a v hcart hc
  refine ⟨?ramEnable, ?bank1, ?bank2, ?mode, State.readByte_mbc1_low hcart hc, State.readByte_mbc1_high hcart hc, ?zero⟩
  case ramEnable =>
    intro h
    rw [State.writeByte_mbc1 hcart hc (by bv_omega), Mbc1.write, if_pos (show a.toNat < 0x2000 by bv_omega)]
    rfl
  case bank1 =>
    intro h1 h2
    rw [State.writeByte_mbc1 hcart hc (by bv_omega), Mbc1.write_bank1_range (by bv_omega) (by bv_omega), mbc1Bank_eq]
  case bank2 =>
    intro h1 h2
    rw [State.writeByte_mbc1 hcart hc (by bv_omega), Mbc1.write, if_neg (show ¬ a.toNat < 0x2000 by bv_omega),
      if_neg (show ¬ a.toNat < 0x4000 by bv_omega), if_pos (show a.toNat < 0x6000 by bv_omega), setWidth_two_eq]
  case mode =>
    intro h1 h2
    rw [State.writeByte_mbc1 hcart hc (by bv_omega), Mbc1.write, if_neg (show ¬ a.toNat < 0x2000 by bv_omega),
      if_neg (show ¬ a.toNat < 0x4000 by bv_omega), if_neg (show ¬ a.toNat < 0x6000 by bv_omega), getLsbD_zero_eq]
  case zero =>
    intro h1 h2 hv b hb1 hb2
    have hone : mbc1Bank v = 1 := by rw [mbc1Bank_eq, if_pos hv]; rfl
    have hcart' : (s.writeByte a v).cfg.cart = some c := by rw [State.writeByte_cfg, hcart]
    rw [State.readByte_mbc1_high hcart' hc hb1 hb2, State.writeByte_mbc1 hcart hc (by bv_omega),
      Mbc1.write_bank1_range (by bv_omega) (by bv_omega), hone]
    rfl

end Sys2Proof.Machine
end

section
/-! SUPPORT. The decoder and the encoder, length by length of 30_encoding.md R130: what `decode` reads off bytes, and the bytes that
`encode` gives for what the two opcode maps hold. -/

namespace Sys2Proof

theorem opLength_cases (op : Byte) : opLength op = 1 ∨ opLength op = 2 ∨ opLength op = 3 := by
  unfold opLength
  split_ifs <;> simp

/-- The immediate bytes after a plain opcode: none, `n`, or both bytes of `nn`, by the opcode's length (30_encoding.md R130, R134). -/
def immediateBytes (op n : Byte) (nn : Word) : List Byte :=
  if opLength op = 1 then [] else if opLength op = 2 then [n] else wordBytes nn

/-- The length the table gives 0xCB itself is 1, so an opcode with immediates is another byte. -/
theorem ne_cb_of_opLength {op : Byte} (h : opLength op ≠ 1) : op ≠ 0xCB := by
  rintro rfl
  exact h rfl

/-! ### A 16-bit immediate and its two bytes -/

theorem wordBytes_append (hi lo : Byte) : wordBytes (hi ++ lo) = [lo, hi] := by
  rw [wordBytes, BitVec.extractLsb'_append_eq_left, BitVec.setWidth_append_eq_right]

theorem exists_bytes_of_word (nn : Word) : ∃ hi lo : Byte, nn = hi ++ lo := by
  have joined : nn.extractLsb' 8 8 ++ nn.extractLsb' 0 8 = nn.extractLsb' 0 16 := BitVec.extractLsb'_append_extractLsb'_eq_extractLsb' rfl
  exact ⟨_, _, by rw [joined, BitVec.extractLsb'_eq_self]⟩

/-! ### Decoding, by the first byte -/

theorem decode_cb (op2 : Byte) (rest : List Byte) : decode (0xCB :: op2 :: rest) = .ok (decodeCb op2, rest) := rfl

theorem decode_oneByte {op : Byte} (hcb : op ≠ 0xCB) (h : opLength op = 1) (rest : List Byte) :
    decode (op :: rest) = .ok (decodePlain op 0 0, rest) := by
  rw [decode.eq_def]
  simp only [if_neg hcb, if_pos h]

theorem decode_twoBytes {op : Byte} (h : opLength op = 2) (n : Byte) (rest : List Byte) :
    decode (op :: n :: rest) = .ok (decodePlain op n 0, rest) := by
  rw [decode, if_neg (ne_cb_of_opLength (by omega)), if_neg (by omega), if_pos h]

theorem decode_threeBytes {op : Byte} (h : opLength op = 3) (lo hi : Byte) (rest : List Byte) :
    decode (op :: lo :: hi :: rest) = .ok (decodePlain op 0 (hi ++ lo), rest) := by
  rw [decode, if_neg (ne_cb_of_opLength (by omega)), if_neg (by omega), if_neg (by omega)]

theorem decode_word {op : Byte} (h : opLength op = 3) (nn : Word) (rest : List Byte) :
    decode (op :: wordBytes nn ++ rest) = .ok (decodePlain op 0 nn, rest) := by
  obtain ⟨hi, lo, rfl⟩ := exists_bytes_of_word nn
  rw [wordBytes_append]
  exact decode_threeBytes h lo hi rest

/-- What was decoded is the CB map's instruction of the byte after 0xCB, or the plain map's of the first byte and its immediates. -/
theorem decode_eq_ok {bytes rest : List Byte} {i : Instr} (h : decode bytes = .ok (i, rest)) :
    (∃ op2, bytes = 0xCB :: op2 :: rest ∧ i = decodeCb op2) ∨
    (∃ op n nn, op ≠ 0xCB ∧ bytes = op :: immediateBytes op n nn ++ rest ∧ i = decodePlain op n nn) := by
  unfold decode at h
  split at h
  · cases h
  next op tail =>
  split_ifs at h with hcb h1 h2
  · split at h <;> cases h
    exact .inl ⟨_, by rw [hcb], rfl⟩
  · cases h
    exact .inr ⟨op, 0, 0, hcb, by rw [immediateBytes, if_pos h1]; rfl, rfl⟩
  · split at h <;> cases h
    exact .inr ⟨op, _, 0, hcb, by rw [immediateBytes, if_neg h1, if_pos h2]; rfl, rfl⟩
  · split at h <;> cases h
    exact .inr ⟨op, 0, _, hcb, by rw [immediateBytes, if_neg h1, if_neg h2, wordBytes_append]; rfl, rfl⟩

/-! ### Encoding, map by map -/

/-- The plain map and the field formulas agree, opcode by opcode, on 0xCB itself too (30_encoding.md R142 against R132 to R138). -/
theorem encode_decodePlain (op n : Byte) (nn : Word) : encode (decodePlain op n nn) = op :: immediateBytes op n nn := by
  obtain ⟨k, hk, rfl⟩ : ∃ k < 256, op = BitVec.ofNat 8 k := ⟨op.toNat, op.isLt, by simp⟩
  interval_cases k <;> rfl

/-- The CB map and the field formulas agree, opcode by opcode (30_encoding.md R143 against R139). -/
theorem encode_decodeCb (op2 : Byte) : encode (decodeCb op2) = [0xCB, op2] := by
  revert op2
  decide +kernel

theorem encode_decodePlain_length (op n : Byte) (nn : Word) : (encode (decodePlain op n nn)).length = opLength op := by
  rw [encode_decodePlain]
  obtain h | h | h := opLength_cases op <;> simp [immediateBytes, wordBytes, h]

theorem wellFormed_of_encode_ne {i : Instr} (h : encode i ≠ [0xCB]) : i.wellFormed = true := by
  cases i with
  | prefixCb => exact absurd rfl h
  | _ => rfl

/-! ### Both directions -/

/-- Only a 16-bit immediate is taken apart by the encoder; every other case is an evaluation of both tables. -/
theorem decode_encode {i : Instr} (hi : i.wellFormed = true) (rest : List Byte) : decode (encode i ++ rest) = .ok (i, rest) := by
  cases i with
  | prefixCb => cases hi
  | ldBcN16 nn | ldDeN16 nn | ldHlN16 nn | ldSpN16 nn | ldMemA16Sp nn | ldMemA16A nn | ldAMemA16 nn
  | jpA16 nn | jpNzA16 nn | jpZA16 nn | jpNcA16 nn | jpCA16 nn
  | callA16 nn | callNzA16 nn | callZA16 nn | callNcA16 nn | callCA16 nn => exact decode_word rfl nn rest
  | _ => rfl

theorem eq_encode_of_decode {bytes rest : List Byte} {i : Instr} (h : decode bytes = .ok (i, rest)) :
    bytes = encode i ++ rest ∧ i.wellFormed = true ∧ 1 ≤ (encode i).length ∧ (encode i).length ≤ 3 := by
  obtain ⟨op2, rfl, rfl⟩ | ⟨op, n, nn, hcb, rfl, rfl⟩ := decode_eq_ok h
  · have hwf : (decodeCb op2).wellFormed = true := wellFormed_of_encode_ne (by rw [encode_decodeCb]; exact nofun)
    rw [encode_decodeCb]
    exact ⟨rfl, hwf, by simp⟩
  · have hwf : (decodePlain op n nn).wellFormed = true := wellFormed_of_encode_ne fun e => by
      rw [encode_decodePlain] at e
      exact hcb (List.cons.inj e).1
    rw [encode_decodePlain_length, encode_decodePlain]
    have hlen := opLength_cases op
    exact ⟨rfl, hwf, by omega, by omega⟩

theorem exists_decode_of_three (b0 b1 b2 : Byte) : ∃ i rest, decode [b0, b1, b2] = .ok (i, rest) := by
  by_cases hcb : b0 = 0xCB
  · rw [hcb]
    exact ⟨_, _, decode_cb b1 [b2]⟩
  · obtain h | h | h := opLength_cases b0
    · exact ⟨_, _, decode_oneByte hcb h [b1, b2]⟩
    · exact ⟨_, _, decode_twoBytes h b1 [b2]⟩
    · exact ⟨_, _, decode_threeBytes h b1 b2 []⟩

end Sys2Proof
end

section
/-! SUPPORT. Fetching (30_encoding.md R131): where the fetches are granted, an instruction starts in `State.afterFetch`. -/

namespace Sys2Proof.Machine

theorem State.opcodeFetched_cpu (s : State) : s.opcodeFetched.cpu =
    { s.cpu with opcodeAddr := s.cpu.pc, pc := s.pc1, haltBug := s.cpu.haltBug && !s.cfg.haltBug } := by
  have hbug : (s.cpu.haltBug && !s.cfg.haltBug) = if s.cfg.haltBug && s.cpu.haltBug then false else s.cpu.haltBug := by
    cases s.cfg.haltBug <;> cases s.cpu.haltBug <;> rfl
  rw [hbug, State.pc1, State.opcodeFetched]
  split_ifs <;> rfl

theorem State.pc1_of_no_haltBug {s : State} (h : s.cfg.haltBug = false) : s.pc1 = s.cpu.pc + 1 := by
  rw [State.pc1, State.opcodeFetched, h]
  rfl

theorem State.opcodeFetched_eq_withCpu (s : State) : s.opcodeFetched = s.withCpu s.opcodeFetched.cpu := by
  unfold State.opcodeFetched
  split <;> rfl

theorem State.afterFetch_one (s : State) : s.afterFetch 1 = s.opcodeFetched := by
  rw [State.opcodeFetched_eq_withCpu, State.afterFetch, State.pc1, BitVec.add_zero]
  rfl

theorem State.fetchOpcode_eq {s : State} (h : s.readRefusal s.cpu.pc = none) (k : Byte → State → Result) :
    s.fetchOpcode k = k (s.readByte s.cpu.pc) s.opcodeFetched := by
  rw [State.fetchOpcode, State.busRead_granted ((State.readRefusal_withCpu _ _ _).trans h), State.readByte_withCpu]

theorem State.fetchNext_eq {s : State} (h : s.readGranted s.cpu.pc) (k : Byte → State → Result) :
    s.fetchNext k = k (s.nextByte s.cpu.pc) ((s.ticks 1).withCpu { s.cpu with pc := s.cpu.pc + 1 }) := by
  rw [State.fetchNext, State.readNext_eq h, State.setPc, State.ticks_cpu]

/-- One more granted fetch goes from `n + 1` bytes fetched to `n + 2`. -/
theorem State.fetchNext_afterFetch {s : State} (n : Nat) (h : (s.ticks n).readGranted (s.pc1 + BitVec.ofNat 16 n))
    (k : Byte → State → Result) :
    (s.afterFetch (n + 1)).fetchNext k = k ((s.ticks n).nextByte (s.pc1 + BitVec.ofNat 16 n)) (s.afterFetch (n + 2)) := by
  have hpc : s.pc1 + BitVec.ofNat 16 n + 1 = s.pc1 + BitVec.ofNat 16 (n + 1) := by
    rw [BitVec.add_assoc, BitVec.ofNat_add]
    rfl
  have hgrant : (s.afterFetch (n + 1)).readGranted (s.afterFetch (n + 1)).cpu.pc := (State.readGranted_withCpu _ _ _).2 h
  rw [State.fetchNext_eq hgrant]
  simp only [State.afterFetch, State.nextByte_withCpu, State.ticks_withCpu, State.ticks_ticks, State.withCpu_withCpu,
    State.withCpu_cpu, Nat.add_sub_cancel, hpc, show n + 2 - 1 = n + 1 from rfl]

/-- The bytes after the opcode, fetched where their fetches are granted (30_encoding.md R131, R139). -/
theorem State.fetchRest_eq {s : State} {op : Byte} {i : Instr} {rest : List Byte}
    (hdec : decode [op, s.nextByte s.pc1, (s.ticks 1).nextByte (s.pc1 + 1)] = .ok (i, rest))
    (hgrant : s.fetchGranted (encode i).length) (k : Instr → State → Result) :
    (s.afterFetch 1).fetchRest op k = k i (s.afterFetch (encode i).length) := by
  obtain ⟨-, h2, h3⟩ := hgrant
  have second (h : 2 ≤ (encode i).length) (k' : Byte → State → Result) :
      (s.afterFetch 1).fetchNext k' = k' (s.nextByte s.pc1) (s.afterFetch 2) := by
    have hfetch := State.fetchNext_afterFetch (s := s) 0 (by rw [BitVec.add_zero]; exact h2 h) k'
    rwa [BitVec.add_zero] at hfetch
  unfold State.fetchRest
  by_cases hcb : op = 0xCB
  · subst hcb
    rw [decode_cb] at hdec
    cases hdec
    rw [encode_decodeCb] at second ⊢
    exact second le_rfl _
  rw [if_neg hcb]
  obtain hl | hl | hl := opLength_cases op
  · rw [decode_oneByte hcb hl] at hdec
    cases hdec
    rw [encode_decodePlain_length, hl, if_pos rfl]
  · rw [decode_twoBytes hl] at hdec
    cases hdec
    rw [encode_decodePlain_length, hl] at second ⊢
    rw [if_neg (by decide), if_pos rfl, second le_rfl]
  · rw [decode_threeBytes hl] at hdec
    cases hdec
    rw [encode_decodePlain_length, hl] at second h3 ⊢
    rw [if_neg (by decide), if_neg (by decide), second (by decide)]
    exact State.fetchNext_afterFetch 1 (h3 le_rfl) _

/-- A granted fetch gives the instruction the bytes at pc decode to, in the state after its bytes (30_encoding.md R131). -/
theorem State.fetchInstr_eq {s : State} {i : Instr} {rest : List Byte} (hdec : decode s.fetchedBytes = .ok (i, rest))
    (hgrant : s.fetchGranted (encode i).length) (k : Instr → State → Result) :
    s.fetchInstr k = k i (s.afterFetch (encode i).length) := by
  rw [State.fetchInstr, State.fetchOpcode_eq hgrant.1, ← State.afterFetch_one, State.fetchRest_eq hdec hgrant]

/-- A step of a running CPU that takes no interrupt, by the bytes at pc (60_exceptions.md R365). -/
theorem step_eq_exec {s : State} {i : Instr} {rest : List Byte} (hrun : s.cpu.run = .running) (hint : s.takesInterrupt = false)
    (hdec : decode s.fetchedBytes = .ok (i, rest)) (hgrant : s.fetchGranted (encode i).length) :
    step s = promote s.cpu.ime (exec i (s.afterFetch (encode i).length)) := by
  rw [step_of_running hrun, hint, if_neg Bool.false_ne_true, State.fetchInstr_eq hdec hgrant]

end Sys2Proof.Machine
end

section
/-! SUPPORT. The 0xCB page (30_encoding.md R139) and the illegal opcodes (R140). -/

namespace Sys2Proof.Machine

/-- The instruction rule of a CB-page opcode, from its fields x, y, z (30_encoding.md R139). -/
def cbForm (op : Byte) : Form :=
  let y := op.extractLsb' 3 3
  match (op.extractLsb' 6 2).toNat, fieldReg (op.extractLsb' 0 3) with
  | 0, some r => .rotReg (fieldRot y) r
  | 0, none => .rotMem (fieldRot y)
  | 1, some r => .bitReg y r
  | 1, none => .bitMem y
  | 2, some r => .resReg y r
  | 2, none => .resMem y
  | _, some r => .setReg y r
  | _, none => .setMem y

theorem cbPage_eq_run (op : Byte) (s : State) : cbPage op s = (cbForm op).run s := by
  unfold cbPage cbForm
  simp only
  generalize (op.extractLsb' 6 2).toNat = x
  cases fieldReg (op.extractLsb' 0 3) <;> rcases x with _ | _ | _ | x <;> rfl

theorem decodeCb_form (op : Byte) : (decodeCb op).form = cbForm op := by
  revert op
  decide +kernel

/-- The meaning of a CB-page opcode by its fields is that of the CB map's instruction (30_encoding.md R139, R143). -/
theorem cbPage_eq_exec (op : Byte) (s : State) : cbPage op s = exec (decodeCb op) s := by
  rw [cbPage_eq_run, exec_form, decodeCb_form]

theorem fieldReg_ne_none : ∀ z : BitVec 3, z ≠ memCode → fieldReg z ≠ none := by decide

/-- On a register operand, each of the four groups of the page reads registers and ends (30_encoding.md R139). -/
theorem cbPage_completes {op : Byte} (hreg : op.toNat % 8 ≠ 6) {s : State} (hw : s.allWritten) : ∃ t, cbPage op s = .next t := by
  have hz : op.extractLsb' 0 3 ≠ memCode := fun h => hreg (congrArg BitVec.toNat h)
  obtain ⟨r, hr⟩ := Option.ne_none_iff_exists'.1 (fieldReg_ne_none _ hz)
  have completes (rs : List RegName) (t : State) : ∃ u, s.reading rs (finish t) = .next u :=
    ⟨_, State.reading_written hw rs _⟩
  unfold cbPage
  simp only [hr]
  generalize (op.extractLsb' 6 2).toNat = x
  rcases x with _ | _ | _ | x
  · exact completes _ _
  · exact completes _ _
  · exact completes _ _
  · exact completes _ _

theorem prefixed_eq {s : State} (h : s.readGranted s.cpu.pc) :
    prefixed s = exec (decodeCb (s.nextByte s.cpu.pc)) ((s.ticks 1).withCpu { s.cpu with pc := s.cpu.pc + 1 }) := by
  rw [prefixed, State.fetchNext_eq h, cbPage_eq_exec]

theorem plain_of_illegal : ∀ op ∈ illegalOpcodes, op ≠ 0xCB ∧ opLength op = 1 ∧ (decodePlain op 0 0).form = .illegal op := by
  decide

end Sys2Proof.Machine
end

section
/-! The statements about encoding and fetching. -/

namespace Sys2Proof.Machine

/-- Settles O1: the encoder's bytes of each instruction, read back by the maps. -/
theorem decodeOfEncode : Obligations.DecodeOfEncode := fun _ rest hi => decode_encode hi rest

/-- Settles O2: what each of the decoder's four ways to answer read, encoded again. -/
theorem encodeOfDecode : Obligations.EncodeOfDecode := ⟨fun _ _ _ => eq_encode_of_decode, exists_decode_of_three⟩

/-- Settles O33: the byte the next M-cycle fetches, through the CB map; a register operand needs only that it is written. -/
theorem prefixRunsCbPage : Obligations.PrefixRunsCbPage := by
  unfold Obligations.PrefixRunsCbPage
  intro i s hi hgrant op s1
  have hexec : exec i s = exec (decodeCb op) s1 := (exec_of_form hi s).trans (prefixed_eq hgrant)
  refine ⟨hexec, fun hw hreg => ?_⟩
  rw [hexec, ← cbPage_eq_exec]
  exact cbPage_completes hreg hw

/-- Settles O3, word by word. -/
theorem specWordsDecode : Obligations.SpecWordsDecode :=
  ⟨rfl, rfl, rfl, rfl, rfl, rfl, rfl, rfl, rfl, rfl, rfl, rfl, rfl, rfl, rfl⟩

/-- Settles O4: the fetches of an instruction, one granted M-cycle after another. -/
theorem stepRunsDecoded : Obligations.StepRunsDecoded := fun _ _ _ => step_eq_exec

/-- Settles O32: the decoded instruction's form is the fault, and a step that fetches it is that fault one fetch later. -/
theorem illegalOpcodesFault : Obligations.IllegalOpcodesFault := by
  unfold Obligations.IllegalOpcodesFault
  intro op hop
  obtain ⟨hcb, hlen, hform⟩ := plain_of_illegal op hop
  refine ⟨⟨_, decode_oneByte hcb hlen [], exec_of_form hform⟩, fun s hrun hint hread hbyte => ⟨?_, State.pc1_of_no_haltBug⟩⟩
  have hdec : decode s.fetchedBytes = .ok (decodePlain op 0 0, [s.nextByte s.pc1, (s.ticks 1).nextByte (s.pc1 + 1)]) := by
    rw [State.fetchedBytes, hbyte]
    exact decode_oneByte hcb hlen _
  have henc : (encode (decodePlain op 0 0)).length = 1 := by rw [encode_decodePlain_length, hlen]
  have hgrant : s.fetchGranted (encode (decodePlain op 0 0)).length := by
    rw [henc]
    exact ⟨hread, by omega, by omega⟩
  rw [step_eq_exec hrun hint hdec hgrant, henc, State.afterFetch_one, State.opcodeFetched_eq_withCpu, State.opcodeFetched_cpu,
    exec_of_form hform]
  rfl

end Sys2Proof.Machine
end

section
/-! SUPPORT. The last M-cycle of a load or a store (40_load.md R160 to R183), from where the instruction starts: what it reads or
writes, and the CPU's registers it ends with. -/

namespace Sys2Proof.Machine

/-! ### Register writes look at nothing but the CPU -/

theorem State.setReg_of_cpu_eq {s t : State} (h : t.cpu = s.cpu) (r : R8) (v : Byte) :
    t.setReg r v = t.withCpu (s.setReg r v).cpu := by
  rw [State.setReg, State.setReg, h, State.withCpu_cpu]

theorem State.setPair_of_cpu_eq {s t : State} (h : t.cpu = s.cpu) (rr : R16) (v : Word) :
    t.setPair rr v = t.withCpu (s.setPair rr v).cpu := by
  cases rr <;> simp [State.setPair, State.setReg, State.setSp, h]

theorem State.hl_of_cpu_eq {s t : State} (h : t.cpu = s.cpu) : t.hl = s.hl := by
  simp [State.hl, State.pair, h]

/-- A pair of the stack written where every register has been: its two halves, the low four bits of F 0 (10_state.md R21, R23). -/
theorem State.setStkPair_written {s : State} (h : s.allWritten) (rr : R16Stk) (v : Word) :
    s.setStkPair rr v = s.withCpu (match rr with
      | .bc => { s.cpu with b := hiByte v, c := loByte v }
      | .de => { s.cpu with d := hiByte v, e := loByte v }
      | .hl => { s.cpu with h := hiByte v, l := loByte v }
      | .af => { s.cpu with a := hiByte v, f := loByte v &&& 0xF0 }) := by
  unfold State.allWritten at h
  cases rr <;> simp [State.setStkPair, State.setPair, State.setReg, Cpu.setReg, State.setF, h]

theorem highPage_eq (n : Byte) : highPage n = 0xFF00 + zext16 n := by
  revert n
  decide

/-! ### Ending an instruction -/

theorem State.reading_internalNext {s : State} (hw : s.allWritten) (rs : List RegName) (k : Result) :
    s.internalNext.reading rs k = k := State.reading_written ((State.tick_allWritten s).2 hw) rs k

theorem finish_setReg (s : State) (r : R8) (v : Byte) : finish (s.setReg r v) = .next ((s.ticks 1).withCpu (s.setReg r v).cpu) :=
  finish_withCpu s _

theorem finish_setPair (s : State) (rr : R16) (v : Word) :
    finish (s.setPair rr v) = .next ((s.ticks 1).withCpu (s.setPair rr v).cpu) := by
  rw [State.setPair_of_cpu_eq rfl, finish_withCpu, State.withCpu_cpu]

/-- A granted read into a register ends the instruction two M-cycles later. -/
theorem State.load_eq {s : State} {a : Word} (h : s.readGranted a) (dst : R8) :
    s.readNext a (fun v t => finish (t.setReg dst v)) = .next ((s.ticks 2).withCpu (s.setReg dst (s.nextByte a)).cpu) := by
  rw [State.readNext_eq h, State.setReg_of_cpu_eq (s.ticks_cpu 1), finish_withCpu, State.ticks_ticks]

/-- The same, the address being in registers `rs`. -/
theorem State.loadVia_eq {s : State} (hw : s.allWritten) (rs : List RegName) {a : Word} (h : s.readGranted a) (dst : R8) :
    s.internalNext.reading rs (s.readNext a fun v t => finish (t.setReg dst v)) =
      .next ((s.ticks 2).withCpu (s.setReg dst (s.nextByte a)).cpu) :=
  (State.reading_internalNext hw _ _).trans (State.load_eq h dst)

/-- A granted read of `(HL)` into A, with HL stepped by `step` after it. -/
theorem State.loadStepHl_eq {s : State} (hw : s.allWritten) (h : s.readGranted s.hl) (step : Word → Word) :
    s.hlOperand (fun v t => finish ((t.setReg .a v).setPair .hl (step t.hl))) =
      .next ((s.ticks 2).withCpu ((s.setReg .a (s.nextByte s.hl)).setPair .hl (step s.hl)).cpu) := by
  have hcpu := s.ticks_cpu 1
  rw [State.hlOperand, State.reading_internalNext hw, State.readNext_eq h, State.hl_of_cpu_eq hcpu, State.setReg_of_cpu_eq hcpu,
    State.setPair_of_cpu_eq (State.withCpu_cpu _ _), State.withCpu_withCpu, finish_withCpu, State.ticks_ticks]

/-- A granted write that ends the instruction, its address or its value from the registers `rs`. -/
theorem State.store_eq {s : State} (hw : s.allWritten) (rs : List RegName) {a : Word} {v : Byte} (h : s.writeGranted a v) :
    s.internalNext.reading rs (s.writeNext a v finish) = .next ((s.nextWrite a v).ticks 1) :=
  (State.reading_internalNext hw _ _).trans (State.writeNext_eq h _)

/-- The same, with HL stepped by `step` after the write. -/
theorem State.storeStepHl_eq {s : State} (hw : s.allWritten) (rs : List RegName) {a : Word} {v : Byte} (h : s.writeGranted a v)
    (step : Word → Word) :
    s.internalNext.reading rs (s.writeNext a v fun t => finish (t.setPair .hl (step t.hl))) =
      .next (((s.nextWrite a v).ticks 1).withCpu (s.setPair .hl (step s.hl)).cpu) := by
  have hcpu := s.nextWrite_cpu a v
  rw [State.reading_internalNext hw, State.writeNext_eq h, State.hl_of_cpu_eq hcpu, State.setPair_of_cpu_eq hcpu, finish_withCpu]

/-! ### The instructions of several M-cycles -/

theorem ldAbsSp_eq {s : State} (hw : s.allWritten) {nn : Word} (hlo : s.writeGranted nn (loByte s.cpu.sp))
    (hhi : (s.nextWrite nn (loByte s.cpu.sp)).writeGranted (nn + 1) (hiByte s.cpu.sp)) :
    ldAbsSp nn s = .next (((s.nextWrite nn (loByte s.cpu.sp)).nextWrite (nn + 1) (hiByte s.cpu.sp)).ticks 1) := by
  rw [ldAbsSp, State.reading_internalNext hw, State.writeNext_eq hlo, State.nextWrite_cpu, State.writeNext_eq hhi, finish_eq]

theorem ldSpHl_eq {s : State} (hw : s.allWritten) : ldSpHl s = .next ((s.ticks 2).withCpu { s.cpu with sp := s.hl }) := by
  rw [ldSpHl, State.reading_internalNext hw, State.internalNext_eq, State.setSp_written (State.ticks_allWritten hw 1),
    finish_withCpu, State.ticks_ticks, State.ticks_cpu]

theorem push_eq {s : State} (hw : s.allWritten) {rr : R16Stk} (h : s.pushGranted (s.stkPair rr)) :
    push rr s = .next (((s.pushed (s.stkPair rr)).ticks 1).withCpu { s.cpu with sp := s.cpu.sp - 2 }) := by
  rw [push, State.reading_internalNext hw, State.internalNext_eq, State.pushWord_eq hw h, finish_withCpu]

end Sys2Proof.Machine
end

section
/-! The obligations about loads, stores and stack transfers (40_load.md). -/

namespace Sys2Proof.Machine

/-- Settles O9: reading a written source goes on, and the last tick leaves the register write. -/
theorem registerLoads : Obligations.RegisterLoads := by
  unfold Obligations.RegisterLoads
  exact ⟨fun i dst src s hi hw => (exec_of_form hi s).trans ((State.reading_written hw _ _).trans (finish_setReg s dst _)),
    fun i dst n s hi => (exec_of_form hi s).trans (finish_setReg s dst n)⟩

/-- Settles O10: each form is a granted read into a register, two of them with HL stepped after it. -/
theorem memoryLoads : Obligations.MemoryLoads := by
  unfold Obligations.MemoryLoads
  simp only [← highPage_eq]
  exact fun i s hw =>
    ⟨fun dst hi h => (exec_of_form hi s).trans (State.loadVia_eq hw _ h dst),
     fun hi h => (exec_of_form hi s).trans (State.loadVia_eq hw _ h .a),
     fun hi h => (exec_of_form hi s).trans (State.loadVia_eq hw _ h .a),
     fun nn hi h => (exec_of_form hi s).trans (State.load_eq h .a),
     fun hi h => (exec_of_form hi s).trans (State.loadVia_eq hw _ h .a),
     fun n hi h => (exec_of_form hi s).trans (State.load_eq h .a),
     fun hi h => (exec_of_form hi s).trans (State.loadStepHl_eq hw h (· + 1)),
     fun hi h => (exec_of_form hi s).trans (State.loadStepHl_eq hw h (· - 1))⟩

/-- Settles O11: each form is a granted write that ends the instruction, two of them with HL stepped after it. -/
theorem memoryStores : Obligations.MemoryStores := by
  unfold Obligations.MemoryStores
  simp only [← highPage_eq]
  exact fun i s hw =>
    ⟨fun src hi h => (exec_of_form hi s).trans (State.store_eq hw _ h),
     fun n hi h => (exec_of_form hi s).trans (State.store_eq hw _ h),
     fun hi h => (exec_of_form hi s).trans (State.store_eq hw _ h),
     fun hi h => (exec_of_form hi s).trans (State.store_eq hw _ h),
     fun nn hi h => (exec_of_form hi s).trans (State.store_eq hw _ h),
     fun hi h => (exec_of_form hi s).trans (State.store_eq hw _ h),
     fun n hi h => (exec_of_form hi s).trans (State.store_eq hw _ h),
     fun hi h => (exec_of_form hi s).trans (State.storeStepHl_eq hw _ h (· + 1)),
     fun hi h => (exec_of_form hi s).trans (State.storeStepHl_eq hw _ h (· - 1))⟩

/-- Settles O12: one register write, two granted writes one M-cycle after another, and one internal M-cycle. -/
theorem wordLoads : Obligations.WordLoads := by
  unfold Obligations.WordLoads
  exact fun i s hw =>
    ⟨fun rr nn hi => (exec_of_form hi s).trans (finish_setPair s rr nn),
     fun nn hi hlo hhi => (exec_of_form hi s).trans (ldAbsSp_eq hw hlo hhi),
     fun hi => (exec_of_form hi s).trans (ldSpHl_eq hw)⟩

/-- Settles O13: the stack's two M-cycles by the rules of a granted push and a granted pop, then the pair. -/
theorem stackTransfers : Obligations.StackTransfers := by
  unfold Obligations.StackTransfers
  refine fun i s hw => ⟨fun rr hi h => (exec_of_form hi s).trans (push_eq hw h), fun rr hi h => (exec_of_form hi s).trans ?_⟩
  have hsp : ((s.ticks 2).withCpu { s.cpu with sp := s.cpu.sp + 2 }).allWritten := State.withCpu_allWritten.2 hw
  show pop rr s = _
  rw [pop, State.popWord_eq hw h, State.setStkPair_written hsp, State.withCpu_withCpu, finish_withCpu, State.ticks_ticks]
  cases rr <;> rfl

end Sys2Proof.Machine
end

section
/-! SUPPORT. 8-bit arithmetic on natural numbers (41_alu8.md R200 to R231): `add8`, `sub8`, the `alu` operations and DAA in exact
arithmetic, and the BCD byte of a two-digit number. -/

namespace Sys2Proof.Machine

theorem and_0x0F_toNat (v : Byte) : (v &&& 0x0F).toNat = v.toNat % 16 :=
  (BitVec.toNat_and v 0x0F).trans (Nat.and_two_pow_sub_one_eq_mod v.toNat 4)

theorem carryByte_toNat (c : Bool) : ((bitOf c).setWidth 8 : Byte).toNat = c.toNat := by cases c <;> rfl

/-! ### add8 and sub8 -/

theorem add8_eq (a v : Byte) (c : Bool) :
    add8 a v c =
      { r := BitVec.ofNat 8 (a.toNat + v.toNat + c.toNat), h := decide (15 < a.toNat % 16 + v.toNat % 16 + c.toNat)
        c := decide (255 < a.toNat + v.toNat + c.toNat) } := by
  have hr : a + v + (bitOf c).setWidth 8 = BitVec.ofNat 8 (a.toNat + v.toNat + c.toNat) := by
    apply BitVec.eq_of_toNat_eq
    rw [BitVec.toNat_add, carryByte_toNat]
    simp
  simp only [add8, hr, and_0x0F_toNat]

theorem sub8_eq (a v : Byte) (c : Bool) :
    sub8 a v c =
      { r := BitVec.ofNat 8 (512 + a.toNat - v.toNat - c.toNat), h := decide (a.toNat % 16 < v.toNat % 16 + c.toNat)
        c := decide (a.toNat < v.toNat + c.toNat) } := by
  have hr : a - v - (bitOf c).setWidth 8 = BitVec.ofNat 8 (512 + a.toNat - v.toNat - c.toNat) := by
    have hv := v.isLt
    have hc := c.toNat_le
    apply BitVec.eq_of_toNat_eq
    simp only [BitVec.toNat_sub, carryByte_toNat, BitVec.toNat_ofNat]
    omega
  simp only [sub8, hr, and_0x0F_toNat]

theorem add8_noCarry (a v : Byte) :
    add8 a v false =
      { r := a + v, h := decide (15 < a.toNat % 16 + v.toNat % 16), c := decide (255 < a.toNat + v.toNat) } := by
  simp [add8_eq, BitVec.ofNat_add]

theorem sub8_noBorrow (a v : Byte) :
    sub8 a v false = { r := a - v, h := decide (a.toNat % 16 < v.toNat % 16), c := decide (a.toNat < v.toNat) } := by
  simp only [sub8, and_0x0F_toNat, Bool.toNat_false, Nat.add_zero]
  simp [bitOf]

theorem add8_one (v : Byte) : add8 v 1 false = { r := v + 1, h := v.toNat % 16 == 15, c := decide (255 < v.toNat + 1) } := by
  have hh : decide (15 < v.toNat % 16 + 1) = (v.toNat % 16 == 15) := by
    rw [Bool.beq_eq_decide_eq, decide_eq_decide]
    omega
  rw [add8_noCarry]
  exact congrArg (Sum8.mk _ · _) hh

theorem sub8_one (v : Byte) : sub8 v 1 false = { r := v - 1, h := v.toNat % 16 == 0, c := decide (v.toNat < 1) } := by
  have hh : decide (v.toNat % 16 < 1) = (v.toNat % 16 == 0) := by
    rw [Bool.beq_eq_decide_eq, decide_eq_decide]
    omega
  rw [sub8_noBorrow]
  exact congrArg (Sum8.mk _ · _) hh

/-! ### The operations of `alu` -/

theorem isZero_ofNat (n : Nat) : isZero (BitVec.ofNat 8 n) = (n % 256 == 0) := by
  rw [isZero, Bool.beq_eq_decide_eq, Bool.beq_eq_decide_eq, decide_eq_decide, ← BitVec.toNat_inj, BitVec.toNat_ofNat]
  rfl

theorem isZero_sub (a v : Byte) : isZero (a - v) = (a == v) := by
  rw [isZero, Bool.beq_eq_decide_eq, Bool.beq_eq_decide_eq, decide_eq_decide]
  exact sub_eq_zero

theorem aluOut_add (a v : Byte) (cy : Bool) :
    aluOut .add a v cy =
      { a := a + v, z := a + v == 0, n := false, h := decide (15 < a.toNat % 16 + v.toNat % 16)
        c := decide (255 < a.toNat + v.toNat) } := by
  rw [aluOut, add8_noCarry]
  rfl

theorem aluOut_adc (a v : Byte) (cy : Bool) :
    aluOut .adc a v cy =
      { a := BitVec.ofNat 8 (a.toNat + v.toNat + cy.toNat), z := (a.toNat + v.toNat + cy.toNat) % 256 == 0, n := false
        h := decide (15 < a.toNat % 16 + v.toNat % 16 + cy.toNat), c := decide (255 < a.toNat + v.toNat + cy.toNat) } := by
  rw [aluOut, add8_eq, isZero_ofNat]

theorem aluOut_sub (a v : Byte) (cy : Bool) :
    aluOut .sub a v cy =
      { a := a - v, z := a == v, n := true, h := decide (a.toNat % 16 < v.toNat % 16), c := decide (a.toNat < v.toNat) } := by
  rw [aluOut, sub8_noBorrow, isZero_sub]

theorem aluOut_sbc (a v : Byte) (cy : Bool) :
    aluOut .sbc a v cy =
      { a := BitVec.ofNat 8 (512 + a.toNat - v.toNat - cy.toNat), z := (512 + a.toNat - v.toNat - cy.toNat) % 256 == 0, n := true
        h := decide (a.toNat % 16 < v.toNat % 16 + cy.toNat), c := decide (a.toNat < v.toNat + cy.toNat) } := by
  rw [aluOut, sub8_eq, isZero_ofNat]

theorem aluOut_cp (a v : Byte) (cy : Bool) :
    aluOut .cp a v cy =
      { a := a, z := a == v, n := true, h := decide (a.toNat % 16 < v.toNat % 16), c := decide (a.toNat < v.toNat) } := by
  rw [aluOut, sub8_noBorrow, isZero_sub]

/-! ### DAA (R231) -/

/-- DAA's high correction is made, and carries. -/
def daaHigh (a : Byte) (n c : Bool) : Bool := c || (!n && decide (0x99 < a.toNat))

/-- DAA's low correction is made. -/
def daaLow (a : Byte) (n h : Bool) : Bool := h || (!n && decide (9 < a.toNat % 16))

/-- What DAA adds to A or subtracts from it. -/
def daaFix (high low : Bool) : Byte := (if high then 0x60 else 0) + (if low then 0x06 else 0)

theorem daaOut_eq (a : Byte) (n h c : Bool) :
    daaOut a n h c =
      { a := if n then a - daaFix (daaHigh a n c) (daaLow a n h) else a + daaFix (daaHigh a n c) (daaLow a n h)
        c := daaHigh a n c } := by
  have hhigh : decide (0x99 < a) = decide (0x99 < a.toNat) := rfl
  have hlow : decide (0x09 < a &&& 0x0F) = decide (9 < a.toNat % 16) := by rw [← and_0x0F_toNat]; rfl
  cases n with
  | true => simp [daaOut, daaFix, daaHigh, daaLow, BitVec.sub_sub]
  | false =>
    rw [daaOut, hhigh, hlow, BitVec.add_assoc]
    rfl

theorem bcd_toNat {n : Nat} (h : n ≤ 99) : (bcd n).toNat = 16 * (n / 10) + n % 10 := by
  rw [bcd, BitVec.toNat_ofNat]
  omega

theorem bcd_low {n : Nat} (h : n ≤ 99) : (bcd n).toNat % 16 = n % 10 := by
  rw [bcd_toNat h]
  omega

/-- The low digits of a BCD addition carry exactly when DAA makes the low correction. -/
theorem daaLow_bcd_add {x y : Nat} (h : x + y ≤ 99) :
    daaLow (bcd x + bcd y) false (decide (15 < x % 10 + y % 10)) = decide (9 < x % 10 + y % 10) := by
  have hx := bcd_toNat (show x ≤ 99 by omega)
  have hy := bcd_toNat (show y ≤ 99 by omega)
  simp only [daaLow, BitVec.toNat_add, hx, hy, Bool.not_false, Bool.true_and, ← Bool.decide_or, decide_eq_decide]
  omega

theorem daa_bcd_add {x y : Nat} (h : x + y ≤ 99) :
    daaOut (bcd x + bcd y) false (decide (15 < x % 10 + y % 10)) false = { a := bcd (x + y), c := false } := by
  have hx := bcd_toNat (show x ≤ 99 by omega)
  have hy := bcd_toNat (show y ≤ 99 by omega)
  have hhigh : daaHigh (bcd x + bcd y) false false = false := by
    simp only [daaHigh, BitVec.toNat_add, hx, hy, Bool.not_false, Bool.true_and, Bool.false_or, decide_eq_false_iff_not]
    omega
  have ha : bcd x + bcd y + daaFix false (decide (9 < x % 10 + y % 10)) = bcd (x + y) := by
    apply BitVec.eq_of_toNat_eq
    by_cases hd : 9 < x % 10 + y % 10 <;> simp [daaFix, hd, hx, hy, bcd_toNat h] <;> omega
  rw [daaOut_eq, hhigh, daaLow_bcd_add h, ← ha]
  rfl

theorem daa_bcd_sub {x y : Nat} (hx : x ≤ 99) (hyx : y ≤ x) :
    daaOut (bcd x - bcd y) true (decide (x % 10 < y % 10)) false = { a := bcd (x - y), c := false } := by
  have hxn := bcd_toNat hx
  have hyn := bcd_toNat (show y ≤ 99 by omega)
  have hdn := bcd_toNat (show x - y ≤ 99 by omega)
  have ha : bcd x - bcd y - daaFix false (decide (x % 10 < y % 10)) = bcd (x - y) := by
    apply BitVec.eq_of_toNat_eq
    by_cases hd : x % 10 < y % 10 <;> simp [daaFix, hd, hxn, hyn, hdn, BitVec.toNat_sub] <;> omega
  rw [daaOut_eq, ← ha]
  simp [daaHigh, daaLow]

end Sys2Proof.Machine
end

section
/-! SUPPORT. The registers and flags of 8-bit arithmetic (41_alu8.md R202 to R234), written where every CPU register has been, and the
operand at HL: what its reads and writes are, where they are granted. -/

namespace Sys2Proof.Machine

/-! ### Flags -/

@[simp] theorem State.ticks_flagC (s : State) (n : Nat) : (s.ticks n).flagC = s.flagC := by
  rw [State.flagC, State.ticks_cpu, State.flagC]

theorem State.setZNHC_written {s : State} (hw : s.allWritten) (z n h c : Bool) :
    s.setZNHC z n h c = s.withCpu { s.cpu with f := packFlags z n h c } := by
  rw [State.setZNHC, State.setF_written hw, packFlags_and]

theorem State.setZNH_written {s : State} (hw : s.allWritten) (z n h : Bool) :
    s.setZNH z n h = s.withCpu { s.cpu with f := packFlags z n h s.flagC } := by
  rw [State.setZNH, State.setF_written hw, packFlags_and, State.keptF_getLsbD hw, State.flagC]

theorem State.setNHC_written {s : State} (hw : s.allWritten) (n h c : Bool) :
    s.setNHC n h c = s.withCpu { s.cpu with f := packFlags s.flagZ n h c } := by
  rw [State.setNHC, State.setF_written hw, packFlags_and, State.keptF_getLsbD hw, State.flagZ]

theorem State.setNH_written {s : State} (hw : s.allWritten) (n h : Bool) :
    s.setNH n h = s.withCpu { s.cpu with f := packFlags s.flagZ n h s.flagC } := by
  rw [State.setNH, State.setF_written hw, packFlags_and, State.keptF_getLsbD hw, State.keptF_getLsbD hw, State.flagZ, State.flagC]

/-! ### The accumulator -/

theorem State.setA_written {s : State} (hw : s.allWritten) (v : Byte) : s.setReg .a v = s.withCpu { s.cpu with a := v } := by
  unfold State.allWritten at hw
  simp [State.setReg, Cpu.setReg, hw]

theorem State.setA_setZNHC_written {s : State} (hw : s.allWritten) (v : Byte) (z n h c : Bool) :
    (s.setReg .a v).setZNHC z n h c = s.withCpu { s.cpu with a := v, f := packFlags z n h c } := by
  rw [State.setZNHC_written (State.setReg_allWritten hw _ _), State.setA_written hw, State.withCpu_withCpu, State.withCpu_cpu]

/-- The CPU after an `alu` operation on `v` (R203 to R226). -/
def State.aluCpu (s : State) (op : Alu) (v : Byte) : Cpu :=
  let x := aluOut op s.cpu.a v s.flagC
  { s.cpu with a := x.a, f := packFlags x.z x.n x.h x.c }

theorem State.aluResult_written {s : State} (hw : s.allWritten) (op : Alu) (v : Byte) :
    s.aluResult op v = s.withCpu (s.aluCpu op v) := State.setA_setZNHC_written hw _ _ _ _ _

theorem State.aluCpu_ticks (s : State) (n : Nat) (op : Alu) (v : Byte) : (s.ticks n).aluCpu op v = s.aluCpu op v := by
  rw [State.aluCpu, State.ticks_flagC, State.ticks_cpu, State.aluCpu]

/-! ### INC and DEC -/

theorem finish_setReg_withCpu (s : State) (r : R8) (v : Byte) (c : Cpu) :
    finish ((s.setReg r v).withCpu c) = .next ((s.ticks 1).withCpu c) := finish_withCpu s c

theorem State.incFlags_written {s : State} (hw : s.allWritten) (v : Byte) :
    s.incFlags v = s.withCpu { s.cpu with f := packFlags (v + 1 == 0) false (v.toNat % 16 == 15) s.flagC } := by
  rw [State.incFlags, add8_one, State.setZNH_written hw, isZero]

theorem State.decFlags_written {s : State} (hw : s.allWritten) (v : Byte) :
    s.decFlags v = s.withCpu { s.cpu with f := packFlags (v - 1 == 0) true (v.toNat % 16 == 0) s.flagC } := by
  rw [State.decFlags, sub8_one, State.setZNH_written hw, isZero]

theorem incReg_eq {s : State} (hw : s.allWritten) (dst : R8) :
    incReg dst s = .next ((s.ticks 1).withCpu { (s.setReg dst (s.reg dst + 1)).cpu with
        f := packFlags (s.reg dst + 1 == 0) false ((s.reg dst).toNat % 16 == 15) s.flagC }) := by
  rw [incReg, State.regOperand, State.reading_written hw, add8_one, State.incFlags_written (State.setReg_allWritten hw _ _),
    finish_setReg_withCpu]
  rfl

theorem decReg_eq {s : State} (hw : s.allWritten) (dst : R8) :
    decReg dst s = .next ((s.ticks 1).withCpu { (s.setReg dst (s.reg dst - 1)).cpu with
        f := packFlags (s.reg dst - 1 == 0) true ((s.reg dst).toNat % 16 == 0) s.flagC }) := by
  rw [decReg, State.regOperand, State.reading_written hw, sub8_one, State.decFlags_written (State.setReg_allWritten hw _ _),
    finish_setReg_withCpu]
  rfl

/-! ### The operand at HL -/

/-- A granted read of `(HL)` goes on in the next M-cycle with its byte. -/
theorem State.hlOperand_eq {s : State} (hw : s.allWritten) (h : s.readGranted s.hl) (k : Byte → State → Result) :
    s.hlOperand k = k (s.nextByte s.hl) (s.ticks 1) := by
  rw [State.hlOperand, State.reading_internalNext hw, State.readNext_eq h]

/-- A read of `(HL)`, the CPU's registers `c` of the byte's M-cycle, and a granted write of `v` in the next one (R228, R230). -/
theorem State.modifyHl_eq {s : State} (hw : s.allWritten) (hr : s.readGranted s.hl) {v : Byte}
    (hv : (s.ticks 1).writeGranted s.hl v) {c : Cpu} {f : Byte → State → Byte × State}
    (hf : f (s.nextByte s.hl) (s.ticks 1) = (v, (s.ticks 1).withCpu c)) (rs : List RegName) :
    s.modifyHl rs f = .next ((((s.ticks 1).nextWrite s.hl v).ticks 1).withCpu c) := by
  rw [State.modifyHl, State.hlOperand_eq hw hr, State.reading_written (State.ticks_allWritten hw 1), hf,
    State.writeNext_eq ((State.writeGranted_withCpu _ _ _ _).2 hv), State.nextWrite_withCpu, finish_withCpu]

theorem incMem_eq {s : State} (hw : s.allWritten) (hr : s.readGranted s.hl)
    (hv : (s.ticks 1).writeGranted s.hl (s.nextByte s.hl + 1)) :
    incMem s = .next ((((s.ticks 1).nextWrite s.hl (s.nextByte s.hl + 1)).ticks 1).withCpu { s.cpu with
        f := packFlags (s.nextByte s.hl + 1 == 0) false ((s.nextByte s.hl).toNat % 16 == 15) s.flagC }) :=
  State.modifyHl_eq hw hr hv
    (by rw [add8_one, State.incFlags_written (State.ticks_allWritten hw 1), State.ticks_cpu, State.ticks_flagC]) _

theorem decMem_eq {s : State} (hw : s.allWritten) (hr : s.readGranted s.hl)
    (hv : (s.ticks 1).writeGranted s.hl (s.nextByte s.hl - 1)) :
    decMem s = .next ((((s.ticks 1).nextWrite s.hl (s.nextByte s.hl - 1)).ticks 1).withCpu { s.cpu with
        f := packFlags (s.nextByte s.hl - 1 == 0) true ((s.nextByte s.hl).toNat % 16 == 0) s.flagC }) :=
  State.modifyHl_eq hw hr hv
    (by rw [sub8_one, State.decFlags_written (State.ticks_allWritten hw 1), State.ticks_cpu, State.ticks_flagC]) _

/-! ### The operations of `alu` -/

theorem aluReg_eq {s : State} (hw : s.allWritten) (op : Alu) (src : R8) :
    aluReg op src s = .next ((s.ticks 1).withCpu (s.aluCpu op (s.reg src))) := by
  rw [aluReg, State.reading_written hw, State.aluResult_written hw, finish_withCpu]

theorem aluImm_eq {s : State} (hw : s.allWritten) (op : Alu) (n : Byte) :
    aluImm op n s = .next ((s.ticks 1).withCpu (s.aluCpu op n)) := by
  rw [aluImm, State.reading_written hw, State.aluResult_written hw, finish_withCpu]

theorem aluMem_eq {s : State} (hw : s.allWritten) (h : s.readGranted s.hl) (op : Alu) :
    aluMem op s = .next ((s.ticks 2).withCpu (s.aluCpu op (s.nextByte s.hl))) := by
  have hw1 := State.ticks_allWritten hw 1
  rw [aluMem, State.hlOperand_eq hw h, State.reading_written hw1, State.aluResult_written hw1, finish_withCpu, State.ticks_ticks,
    State.aluCpu_ticks]

/-! ### The accumulator adjustments -/

theorem daa_eq {s : State} (hw : s.allWritten) :
    let x := daaOut s.cpu.a s.flagN s.flagH s.flagC
    daa s = .next ((s.ticks 1).withCpu { s.cpu with a := x.a, f := packFlags (x.a == 0) s.flagN false x.c }) := by
  intro x
  rw [daa, State.reading_written hw, ← finish_withCpu]
  exact congrArg finish (State.setA_setZNHC_written hw x.a _ _ _ _)

theorem cpl_eq {s : State} (hw : s.allWritten) :
    cpl s = .next ((s.ticks 1).withCpu { s.cpu with a := s.cpu.a ^^^ 0xFF, f := packFlags s.flagZ true true s.flagC }) := by
  rw [cpl, State.reading_written hw, State.setNH_written (State.setReg_allWritten hw _ _), State.setA_written hw,
    State.withCpu_withCpu, finish_withCpu]
  rfl

theorem scf_eq {s : State} (hw : s.allWritten) :
    scf s = .next ((s.ticks 1).withCpu { s.cpu with f := packFlags s.flagZ false false true }) := by
  rw [scf, State.setNHC_written hw, finish_withCpu]

theorem ccf_eq {s : State} (hw : s.allWritten) :
    ccf s = .next ((s.ticks 1).withCpu { s.cpu with f := packFlags s.flagZ false false (!s.flagC) }) := by
  rw [ccf, State.reading_written hw, State.setNHC_written hw, finish_withCpu]

end Sys2Proof.Machine
end

section
/-! The obligations about 8-bit arithmetic (41_alu8.md). -/

namespace Sys2Proof.Machine

/-- Settles O14, operation by operation. -/
theorem aluOperations : Obligations.AluOperations := by
  unfold Obligations.AluOperations
  exact fun a v cy =>
    ⟨aluOut_add a v cy, aluOut_adc a v cy, aluOut_sub a v cy, aluOut_sbc a v cy, rfl, rfl, rfl, aluOut_cp a v cy⟩

/-- Settles O18: the register forms end in one M-cycle; the `(HL)` forms are a granted read and a granted write. -/
theorem incrementDecrement : Obligations.IncrementDecrement := by
  unfold Obligations.IncrementDecrement
  exact fun i s hw =>
    ⟨fun dst hi => (exec_of_form hi s).trans (incReg_eq hw dst),
     fun dst hi => (exec_of_form hi s).trans (decReg_eq hw dst),
     fun hi hr hv => (exec_of_form hi s).trans (incMem_eq hw hr hv),
     fun hi hr hv => (exec_of_form hi s).trans (decMem_eq hw hr hv)⟩

/-- Settles O20: digit by digit for the BCD laws; SUB undoes ADD because addition cancels. -/
theorem arithmeticLaws : Obligations.ArithmeticLaws := by
  unfold Obligations.ArithmeticLaws
  refine ⟨fun x y h => ?_, fun x y hx hyx => ?_, fun a b => ?_⟩
  · have hc : decide (255 < (bcd x).toNat + (bcd y).toNat) = false := by
      rw [bcd_toNat (by omega), bcd_toNat (by omega), decide_eq_false_iff_not]
      omega
    simp only [aluOut_add, bcd_low (show x ≤ 99 by omega), bcd_low (show y ≤ 99 by omega), hc, daa_bcd_add h]
  · have hc : decide ((bcd x).toNat < (bcd y).toNat) = false := by
      rw [bcd_toNat hx, bcd_toNat (by omega), decide_eq_false_iff_not]
      omega
    simp only [aluOut_sub, bcd_low hx, bcd_low (show y ≤ 99 by omega), hc, daa_bcd_sub hx hyx]
  · have hz : (a + b == b) = (a == 0) := by rw [← isZero_sub, BitVec.add_sub_cancel, isZero]
    rw [aluOut_sub, aluOut_add, BitVec.add_sub_cancel, hz]

/-- Settles O15: reading written registers goes on, and the last tick leaves the operation's A and F. -/
theorem aluRegister : Obligations.AluRegister := by
  unfold Obligations.AluRegister
  exact fun i op src s hi hw => (exec_of_form hi s).trans (aluReg_eq hw op src)

/-- Settles O16: the same, after a granted read of `(HL)`. -/
theorem aluMemory : Obligations.AluMemory := by
  unfold Obligations.AluMemory
  exact fun i op s hi hw h => (exec_of_form hi s).trans (aluMem_eq hw h op)

/-- Settles O17: the same, for a byte the instruction carries. -/
theorem aluImmediate : Obligations.AluImmediate := by
  unfold Obligations.AluImmediate
  exact fun i op n s hi hw => (exec_of_form hi s).trans (aluImm_eq hw op n)

/-- Settles O19: DAA by its two corrections, the others by the flags they write. -/
theorem accumulatorAdjust : Obligations.AccumulatorAdjust := by
  unfold Obligations.AccumulatorAdjust
  refine fun i s hw =>
    ⟨fun hi => (exec_of_form hi s).trans ((daa_eq hw).trans ?_),
     fun hi => (exec_of_form hi s).trans (cpl_eq hw),
     fun hi => (exec_of_form hi s).trans (scf_eq hw),
     fun hi => (exec_of_form hi s).trans (ccf_eq hw)⟩
  rw [daaOut_eq]
  rfl

end Sys2Proof.Machine
end

section
/-! SUPPORT. 16-bit arithmetic (42_alu16.md R250 to R254): its carries in exact arithmetic, and the registers it ends with where every
CPU register has been written. -/

namespace Sys2Proof.Machine

/-! ### Carries -/

theorem wordAnd_mask_toNat (v : Word) {k : Nat} (hk : k ≤ 16) : (v &&& BitVec.ofNat 16 (2 ^ k - 1)).toNat = v.toNat % 2 ^ k := by
  have hmask : 2 ^ k - 1 < 2 ^ 16 := Nat.sub_one_lt_of_le (Nat.two_pow_pos k) (Nat.pow_le_pow_right (by decide) hk)
  rw [BitVec.toNat_and, BitVec.toNat_ofNat, Nat.mod_eq_of_lt hmask, Nat.and_two_pow_sub_one_eq_mod]

theorem halfCarry16_eq (a b : Word) : halfCarry16 a b = decide (0x0FFF < a.toNat % 0x1000 + b.toNat % 0x1000) := by
  have hmask (v : Word) : (v &&& 0x0FFF).toNat = v.toNat % 0x1000 := wordAnd_mask_toNat v (k := 12) (by decide)
  rw [halfCarry16, hmask, hmask]

theorem halfCarrySp_eq (a : Word) (e : Byte) : halfCarrySp a e = decide (15 < a.toNat % 16 + e.toNat % 16) := by
  have hmask : (a &&& 0x0F).toNat = a.toNat % 16 := wordAnd_mask_toNat a (k := 4) (by decide)
  rw [halfCarrySp, hmask, and_0x0F_toNat]

theorem carrySp_eq (a : Word) (e : Byte) : carrySp a e = decide (255 < a.toNat % 256 + e.toNat) := by
  have hmask : (a &&& 0xFF).toNat = a.toNat % 256 := wordAnd_mask_toNat a (k := 8) (by decide)
  rw [carrySp, hmask]

/-! ### The last two M-cycles -/

theorem State.setPair_allWritten {s : State} (hw : s.allWritten) (rr : R16) (v : Word) : (s.setPair rr v).allWritten := by
  cases rr with
  | bc | de | hl => exact State.setReg_allWritten (State.setReg_allWritten hw _ _) _ _
  | sp => exact State.setSp_allWritten hw v

theorem State.setPair_flagZ (s : State) (rr : R16) (v : Word) : (s.setPair rr v).flagZ = s.flagZ := by
  cases rr <;> rfl

theorem State.setNHC_eq_setZNHC {s : State} (hw : s.allWritten) (n h c : Bool) : s.setNHC n h c = s.setZNHC s.flagZ n h c :=
  (State.setNHC_written hw n h c).trans (State.setZNHC_written hw s.flagZ n h c).symm

theorem State.internalNext_setPair (s : State) (rr : R16) (v : Word) :
    s.internalNext.setPair rr v = (s.ticks 1).withCpu (s.setPair rr v).cpu := State.setPair_of_cpu_eq (s.ticks_cpu 1) rr v

/-- A pair written in an internal M-cycle that ends the instruction. -/
theorem finish_internalNext_setPair (s : State) (rr : R16) (v : Word) :
    finish (s.internalNext.setPair rr v) = .next ((s.ticks 2).withCpu (s.setPair rr v).cpu) := by
  rw [State.internalNext_setPair, finish_withCpu, State.ticks_ticks]

/-- The same, with all four flags written (R254). -/
theorem finish_internalNext_setPair_setZNHC {s : State} (hw : s.allWritten) (rr : R16) (v : Word) (z n h c : Bool) :
    finish ((s.internalNext.setPair rr v).setZNHC z n h c) =
      .next ((s.ticks 2).withCpu { (s.setPair rr v).cpu with f := packFlags z n h c }) := by
  have hw1 : ((s.ticks 1).withCpu (s.setPair rr v).cpu).allWritten := State.withCpu_allWritten.2 (State.setPair_allWritten hw rr v)
  rw [State.internalNext_setPair, State.setZNHC_written hw1, State.withCpu_withCpu, State.withCpu_cpu, finish_withCpu,
    State.ticks_ticks]

/-- The same, with N, H and C written and Z kept (R252). -/
theorem finish_internalNext_setPair_setNHC {s : State} (hw : s.allWritten) (rr : R16) (v : Word) (n h c : Bool) :
    finish ((s.internalNext.setPair rr v).setNHC n h c) =
      .next ((s.ticks 2).withCpu { (s.setPair rr v).cpu with f := packFlags s.flagZ n h c }) := by
  have hw1 : s.internalNext.allWritten := State.ticks_allWritten hw 1
  have hz : (s.internalNext.setPair rr v).flagZ = s.flagZ := State.setPair_flagZ s.internalNext rr v
  rw [State.setNHC_eq_setZNHC (State.setPair_allWritten hw1 rr v), hz, finish_internalNext_setPair_setZNHC hw]

/-! ### The instructions -/

theorem incPair_eq {s : State} (hw : s.allWritten) (rr : R16) :
    incPair rr s = .next ((s.ticks 2).withCpu (s.setPair rr (s.pair rr + 1)).cpu) := by
  rw [incPair, State.reading_internalNext hw, finish_internalNext_setPair]

theorem decPair_eq {s : State} (hw : s.allWritten) (rr : R16) :
    decPair rr s = .next ((s.ticks 2).withCpu (s.setPair rr (s.pair rr - 1)).cpu) := by
  rw [decPair, State.reading_internalNext hw, finish_internalNext_setPair]

theorem addHl_eq {s : State} (hw : s.allWritten) (rr : R16) :
    addHl rr s = .next ((s.ticks 2).withCpu { (s.setPair .hl (s.hl + s.pair rr)).cpu with
        f := packFlags s.flagZ false (decide (0x0FFF < s.hl.toNat % 0x1000 + (s.pair rr).toNat % 0x1000))
          (decide (0xFFFF < s.hl.toNat + (s.pair rr).toNat)) }) := by
  rw [addHl, State.reading_internalNext hw, finish_internalNext_setPair_setNHC hw, halfCarry16_eq, carry16]

theorem addSp_eq {s : State} (hw : s.allWritten) (e : Byte) :
    addSp e s = .next ((s.ticks 3).withCpu { s.cpu with
        sp := s.cpu.sp + e.signExtend 16
        f := packFlags false false (decide (15 < s.cpu.sp.toNat % 16 + e.toNat % 16))
          (decide (255 < s.cpu.sp.toNat % 256 + e.toNat)) }) := by
  have hnext : s.internalNext.internalNext = s.ticks 2 := rfl
  have hw2 : (s.ticks 2).allWritten := State.ticks_allWritten hw 2
  rw [addSp, State.reading_internalNext hw, hnext, State.setZNHC_written (State.setSp_allWritten hw2 _), State.setSp_written hw2,
    State.withCpu_withCpu, finish_withCpu, State.ticks_ticks, State.withCpu_cpu, State.ticks_cpu, halfCarrySp_eq, carrySp_eq,
    State.spOffset, sext16]

theorem ldHlSp_eq {s : State} (hw : s.allWritten) (e : Byte) :
    ldHlSp e s = .next ((s.ticks 2).withCpu { (s.setPair .hl (s.cpu.sp + e.signExtend 16)).cpu with
        f := packFlags false false (decide (15 < s.cpu.sp.toNat % 16 + e.toNat % 16))
          (decide (255 < s.cpu.sp.toNat % 256 + e.toNat)) }) := by
  rw [ldHlSp, State.reading_internalNext hw, finish_internalNext_setPair_setZNHC hw, halfCarrySp_eq, carrySp_eq, State.spOffset,
    sext16]

end Sys2Proof.Machine
end

section
/-! The obligation about 16-bit arithmetic (42_alu16.md). -/

namespace Sys2Proof.Machine

/-- Settles O21, instruction by instruction: the pair or SP written, then the flags of its carries in exact arithmetic. -/
theorem wordArithmetic : Obligations.WordArithmetic := by
  unfold Obligations.WordArithmetic
  exact fun i s hw =>
    ⟨fun rr hi => (exec_of_form hi s).trans (incPair_eq hw rr),
     fun rr hi => (exec_of_form hi s).trans (decPair_eq hw rr),
     fun rr hi => (exec_of_form hi s).trans (addHl_eq hw rr),
     fun e hi => (exec_of_form hi s).trans (addSp_eq hw e),
     fun e hi => (exec_of_form hi s).trans (ldHlSp_eq hw e)⟩

end Sys2Proof.Machine
end

section
/-! SUPPORT. Rotates, shifts and bit operations (43_rotate_shift_bit.md R270 to R296): the rotates as shifts of the byte, and the
registers, flags and byte at HL they end with where every CPU register has been written. -/

namespace Sys2Proof.Machine

/-! ### Rotates as shifts

A rotate by one moves seven bits and puts one bit in at the end they leave free; each operation is one of the two moves with its own bit. -/

theorem setWidth_append_bitOf (o : Byte) (b : Bool) : o.setWidth 7 ++ bitOf b = (o <<< 1 ||| if b then 0x01 else 0 : Byte) := by
  revert o b
  decide

theorem bitOf_append_extractLsb' (o : Byte) (b : Bool) : bitOf b ++ o.extractLsb' 1 7 = (o >>> 1 ||| if b then 0x80 else 0 : Byte) := by
  revert o b
  decide

theorem setWidth_append_extractLsb' (o : Byte) : o.setWidth 4 ++ o.extractLsb' 4 4 = ((o &&& 0x0F) <<< 4 ||| o >>> 4 : Byte) := by
  revert o
  decide

theorem bit7_at_bit0 (o : Byte) : (if o.getLsbD 7 then 0x01 else 0 : Byte) = o >>> 7 := by
  revert o
  decide

theorem bit0_at_bit7 (o : Byte) : (if o.getLsbD 0 then 0x80 else 0 : Byte) = o <<< 7 := by
  revert o
  decide

theorem bit7_at_bit7 (o : Byte) : (if o.getLsbD 7 then 0x80 else 0 : Byte) = o &&& 0x80 := by
  revert o
  decide

theorem rotated_sla (o : Byte) (cy : Bool) : rotated .sla o cy = { r := o <<< 1, c := o.getLsbD 7 } :=
  congrArg (Rotated.mk · _) ((setWidth_append_bitOf o false).trans BitVec.or_zero)

theorem rotated_srl (o : Byte) (cy : Bool) : rotated .srl o cy = { r := o >>> 1, c := o.getLsbD 0 } :=
  congrArg (Rotated.mk · _) ((bitOf_append_extractLsb' o false).trans BitVec.or_zero)

/-! ### Rotates and shifts -/

theorem State.rotFlags_written {s : State} (hw : s.allWritten) (x : Rotated) :
    s.rotFlags x = s.withCpu { s.cpu with f := packFlags (x.r == 0) false false x.c } := State.setZNHC_written hw _ _ _ _

theorem rotA_eq {s : State} (hw : s.allWritten) (k : AccRot) :
    let x := rotated (accRot k) s.cpu.a s.flagC
    rotA k s = .next ((s.ticks 1).withCpu { s.cpu with a := x.r, f := packFlags false false false x.c }) := by
  intro x
  rw [rotA, State.reading_written hw, ← finish_withCpu]
  exact congrArg finish (State.setA_setZNHC_written hw x.r _ _ _ _)

theorem rotReg_eq {s : State} (hw : s.allWritten) (k : Rot) (r : R8) :
    let x := rotated k (s.reg r) s.flagC
    rotReg k r s = .next ((s.ticks 1).withCpu { (s.setReg r x.r).cpu with f := packFlags (x.r == 0) false false x.c }) := by
  intro x
  rw [rotReg, State.reading_written hw, ← finish_setReg_withCpu s r x.r]
  exact congrArg finish (State.rotFlags_written (State.setReg_allWritten hw r x.r) x)

theorem rotMem_eq {s : State} (hw : s.allWritten) (hr : s.readGranted s.hl) (k : Rot)
    (hv : (s.ticks 1).writeGranted s.hl (rotated k (s.nextByte s.hl) s.flagC).r) :
    let x := rotated k (s.nextByte s.hl) s.flagC
    rotMem k s = .next ((((s.ticks 1).nextWrite s.hl x.r).ticks 1).withCpu { s.cpu with
        f := packFlags (x.r == 0) false false x.c }) :=
  State.modifyHl_eq hw hr hv
    (by rw [State.rotFlags_written (State.ticks_allWritten hw 1), State.ticks_cpu, State.ticks_flagC]) _

/-! ### Bit test, reset and set -/

theorem State.bitFlags_written {s : State} (hw : s.allWritten) (b : BitVec 3) (v : Byte) :
    s.bitFlags b v = s.withCpu { s.cpu with f := packFlags (!v.getLsbD b.toNat) false true s.flagC } :=
  State.setZNH_written hw _ _ _

theorem bitReg_eq {s : State} (hw : s.allWritten) (b : BitVec 3) (r : R8) :
    bitReg b r s = .next ((s.ticks 1).withCpu { s.cpu with f := packFlags (!(s.reg r).getLsbD b.toNat) false true s.flagC }) := by
  rw [bitReg, State.regOperand, State.reading_written hw, State.bitFlags_written hw, finish_withCpu]

theorem bitMem_eq {s : State} (hw : s.allWritten) (hr : s.readGranted s.hl) (b : BitVec 3) :
    bitMem b s = .next ((s.ticks 2).withCpu { s.cpu with
        f := packFlags (!(s.nextByte s.hl).getLsbD b.toNat) false true s.flagC }) := by
  rw [bitMem, State.hlOperand_eq hw hr, State.bitFlags_written (State.ticks_allWritten hw 1), finish_withCpu, State.ticks_ticks,
    State.ticks_cpu, State.ticks_flagC]

/-- A register operand changed by `f`, no flag written. -/
theorem State.modifyReg_eq {s : State} (hw : s.allWritten) (r : R8) (f : Byte → Byte) :
    (s.regOperand r fun v => finish (s.setReg r (f v))) = .next ((s.ticks 1).withCpu (s.setReg r (f (s.reg r))).cpu) := by
  rw [State.regOperand, State.reading_written hw, finish_setReg]

/-- The byte at HL changed by `f`, no register and no flag written. -/
theorem State.modifyHl_keepCpu_eq {s : State} (hw : s.allWritten) (hr : s.readGranted s.hl) (f : Byte → Byte)
    (hv : (s.ticks 1).writeGranted s.hl (f (s.nextByte s.hl))) :
    (s.modifyHl [] fun v t => (f v, t)) = .next (((s.ticks 1).nextWrite s.hl (f (s.nextByte s.hl))).ticks 1) := by
  rw [State.modifyHl, State.hlOperand_eq hw hr, State.reading_written (State.ticks_allWritten hw 1), State.writeNext_eq hv, finish_eq]

end Sys2Proof.Machine
end

section
/-! The obligations about rotates, shifts and bit operations (43_rotate_shift_bit.md). -/

namespace Sys2Proof.Machine

/-- Settles O24: a granted read of `(HL)`, the flags, and a granted write of the rotated byte. -/
theorem memoryRotates : Obligations.MemoryRotates := by
  unfold Obligations.MemoryRotates
  exact fun i k s hi hw hr hv => (exec_of_form hi s).trans (rotMem_eq hw hr k hv)

/-- Settles O25: BIT ends with its flags; RES and SET change the operand alone, by clearing or setting the bit. -/
theorem bitInstructions : Obligations.BitInstructions := by
  unfold Obligations.BitInstructions
  exact fun i b s hw =>
    ⟨fun r hi => (exec_of_form hi s).trans (bitReg_eq hw b r),
     fun hi hr => (exec_of_form hi s).trans (bitMem_eq hw hr b),
     fun r hi => (exec_of_form hi s).trans (State.modifyReg_eq hw r (· &&& ~~~bitByte b.toNat)),
     fun r hi => (exec_of_form hi s).trans (State.modifyReg_eq hw r (· ||| bitByte b.toNat)),
     fun hi hr hv => (exec_of_form hi s).trans (State.modifyHl_keepCpu_eq hw hr (· &&& ~~~bitByte b.toNat) hv),
     fun hi hr hv => (exec_of_form hi s).trans (State.modifyHl_keepCpu_eq hw hr (· ||| bitByte b.toNat) hv)⟩

/-- Settles O22, operation by operation: the move of seven bits, then the bit put in. -/
theorem rotateOperations : Obligations.RotateOperations := by
  unfold Obligations.RotateOperations
  refine fun o cy => ⟨?rlc, ?rrc, ?rl, ?rr, rotated_sla o cy, ?sra, ?swap, rotated_srl o cy⟩
  case rlc => rw [rotated, setWidth_append_bitOf, bit7_at_bit0]
  case rrc => rw [rotated, bitOf_append_extractLsb', bit0_at_bit7]
  case rl => rw [rotated, setWidth_append_bitOf]
  case rr => rw [rotated, bitOf_append_extractLsb']
  case sra => rw [rotated, bitOf_append_extractLsb', bit7_at_bit7]
  case swap => rw [rotated, setWidth_append_extractLsb']

/-- Settles O23: A is written with Z 0 whatever the result; another register is written with Z of its result. -/
theorem registerRotates : Obligations.RegisterRotates := by
  unfold Obligations.RegisterRotates
  exact
    ⟨fun i k s hi hw => (exec_of_form hi s).trans (rotA_eq hw k),
     fun i k r s hi hw => (exec_of_form hi s).trans (rotReg_eq hw k r)⟩

end Sys2Proof.Machine
end

section
/-! SUPPORT. Jumps, calls and returns (44_control.md R310 to R321): the state they end in where every CPU register has been written and
the stack accesses are granted. -/

namespace Sys2Proof.Machine

/-! ### Conditions (R310) -/

theorem State.cond_iff (s : State) (cc : Cond) : s.cond cc = true ↔ s.condHolds cc := by
  cases cc <;> simp [State.cond, State.condHolds]

theorem State.ticks_condHolds (s : State) (n : Nat) (cc : Cond) : (s.ticks n).condHolds cc ↔ s.condHolds cc := by
  cases cc <;> simp [State.condHolds, State.flagZ, State.flagC]

theorem State.ifCond_taken {s : State} (hw : s.allWritten) {cc : Cond} (h : s.condHolds cc) (x y : Result) :
    s.ifCond cc x y = x := by
  rw [State.ifCond, State.reading_written hw, if_pos ((s.cond_iff cc).2 h)]

theorem State.ifCond_notTaken {s : State} (hw : s.allWritten) {cc : Cond} (h : ¬ s.condHolds cc) (x y : Result) :
    s.ifCond cc x y = y := by
  rw [State.ifCond, State.reading_written hw, if_neg (mt (s.cond_iff cc).1 h)]

/-! ### Jumps -/

theorem finish_internalNext_withCpu (s : State) (c : Cpu) : finish (s.internalNext.withCpu c) = .next ((s.ticks 2).withCpu c) := by
  rw [finish_withCpu, State.internalNext_eq, State.ticks_ticks]

theorem jp_eq (nn : Word) (s : State) : jp nn s = .next ((s.ticks 2).withCpu { s.cpu with pc := nn }) :=
  finish_internalNext_withCpu s _

theorem jpHl_eq {s : State} (hw : s.allWritten) : jpHl s = .next ((s.ticks 1).withCpu { s.cpu with pc := s.hl }) := by
  rw [jpHl, State.reading_written hw, State.setPc, finish_withCpu]

theorem jr_eq (e : Byte) (s : State) : jr e s = .next ((s.ticks 2).withCpu { s.cpu with pc := s.cpu.pc + e.signExtend 16 }) :=
  finish_internalNext_withCpu s _

/-! ### Calls -/

theorem call_eq {s : State} (hw : s.allWritten) (h : s.pushGranted s.cpu.pc) (nn : Word) :
    call nn s = .next (((s.pushed s.cpu.pc).ticks 1).withCpu { s.cpu with sp := s.cpu.sp - 2, pc := nn }) := by
  rw [call, State.internalNext_eq, State.pushWord_eq hw h, State.setPc, State.withCpu_withCpu, finish_withCpu, State.withCpu_cpu]

theorem rstTarget_eq (y : BitVec 3) : rstTarget y = BitVec.ofNat 16 (8 * y.toNat) := by
  revert y
  decide

theorem rst_eq {s : State} (hw : s.allWritten) (h : s.pushGranted s.cpu.pc) (y : BitVec 3) :
    rst y s = .next (((s.pushed s.cpu.pc).ticks 1).withCpu { s.cpu with sp := s.cpu.sp - 2, pc := BitVec.ofNat 16 (8 * y.toNat) }) :=
  rstTarget_eq y ▸ call_eq hw h (rstTarget y)

/-! ### Returns -/

/-- A granted pop, then an internal M-cycle that writes the CPU by `f`: four M-cycles. -/
theorem State.popWord_internalNext_eq {s : State} (hw : s.allWritten) (h : s.popGranted) (f : Word → Cpu → Cpu) :
    (s.popWord fun v t => finish (t.internalNext.withCpu (f v t.cpu))) =
      .next ((s.ticks 4).withCpu (f s.popValue { s.cpu with sp := s.cpu.sp + 2 })) := by
  rw [State.popWord_eq hw h, finish_internalNext_withCpu, State.ticks_withCpu, State.ticks_ticks, State.withCpu_withCpu,
    State.withCpu_cpu]

theorem ret_eq {s : State} (hw : s.allWritten) (h : s.popGranted) :
    ret s = .next ((s.ticks 4).withCpu { s.cpu with sp := s.cpu.sp + 2, pc := s.popValue }) :=
  State.popWord_internalNext_eq hw h fun v c => { c with pc := v }

theorem reti_eq {s : State} (hw : s.allWritten) (h : s.popGranted) :
    reti s = .next ((s.ticks 4).withCpu { s.cpu with sp := s.cpu.sp + 2, pc := s.popValue, ime := .enabled }) :=
  State.popWord_internalNext_eq hw h fun v c => { c with pc := v, ime := .enabled }

/-- `RET cc` taken is `RET` one M-cycle later (R319). -/
theorem retCc_taken {s : State} (hw : s.allWritten) {cc : Cond} (hc : s.condHolds cc) (h : (s.ticks 1).popGranted) :
    retCc cc s = .next ((s.ticks 5).withCpu { s.cpu with sp := s.cpu.sp + 2, pc := (s.ticks 1).popValue }) := by
  have hw1 : (s.ticks 1).allWritten := State.ticks_allWritten hw 1
  rw [retCc, State.internalNext_eq, State.ifCond_taken hw1 ((s.ticks_condHolds 1 cc).2 hc), ret_eq hw1 h, State.ticks_ticks,
    State.ticks_cpu]

theorem retCc_notTaken {s : State} (hw : s.allWritten) {cc : Cond} (hc : ¬ s.condHolds cc) : retCc cc s = .next (s.ticks 2) := by
  rw [retCc, State.internalNext_eq, State.ifCond_notTaken (State.ticks_allWritten hw 1) (mt (s.ticks_condHolds 1 cc).1 hc), finish_eq,
    State.ticks_ticks]

end Sys2Proof.Machine
end

section
/-! The obligations about jumps, calls and returns (44_control.md). -/

namespace Sys2Proof.Machine

/-- Settles O27: CALL and RST are one granted push and a jump; a `CALL cc` not taken ends with its tick alone. -/
theorem calls : Obligations.Calls := by
  unfold Obligations.Calls
  exact fun i s hw =>
    ⟨fun nn hi h => (exec_of_form hi s).trans (call_eq hw h nn),
     fun cc nn hi =>
      ⟨fun hc h => (exec_of_form hi s).trans ((State.ifCond_taken hw hc _ _).trans (call_eq hw h nn)),
       fun hc => (exec_of_form hi s).trans (State.ifCond_notTaken hw hc _ _)⟩,
     fun y hi h => (exec_of_form hi s).trans (rst_eq hw h y)⟩

/-- Settles O28: RET and RETI are one granted pop and a jump; `RET cc` tests its condition in an internal M-cycle before that. -/
theorem returns : Obligations.Returns := by
  unfold Obligations.Returns
  exact fun i s hw =>
    ⟨fun hi h => (exec_of_form hi s).trans (ret_eq hw h),
     fun cc hi =>
      ⟨fun hc h => (exec_of_form hi s).trans (retCc_taken hw hc h),
       fun hc => (exec_of_form hi s).trans (retCc_notTaken hw hc)⟩,
     fun hi h => (exec_of_form hi s).trans (reti_eq hw h)⟩

/-- Settles O26: pc is written in the last M-cycle; a conditional jump is the unconditional one, or ends with its tick alone. -/
theorem jumps : Obligations.Jumps := by
  unfold Obligations.Jumps
  exact fun i s hw =>
    ⟨fun nn hi => (exec_of_form hi s).trans (jp_eq nn s),
     fun cc nn hi =>
      ⟨fun hc => (exec_of_form hi s).trans ((State.ifCond_taken hw hc _ _).trans (jp_eq nn s)),
       fun hc => (exec_of_form hi s).trans (State.ifCond_notTaken hw hc _ _)⟩,
     fun hi => (exec_of_form hi s).trans (jpHl_eq hw),
     fun e hi => (exec_of_form hi s).trans (jr_eq e s),
     fun cc e hi =>
      ⟨fun hc => (exec_of_form hi s).trans ((State.ifCond_taken hw hc _ _).trans (jr_eq e s)),
       fun hc => (exec_of_form hi s).trans (State.ifCond_notTaken hw hc _ _)⟩⟩

end Sys2Proof.Machine
end

section
/-! SUPPORT. System instructions (45_system.md R340 to R344): the state each ends in, and the divider in a device tick and in the speed
switch of STOP. -/

namespace Sys2Proof.Machine

/-! ### The divider (60_exceptions.md R382, R386) -/

@[simp] theorem Timer.increment_div (t : Timer) : t.increment.div = t.div := by
  unfold Timer.increment
  split <;> rfl

@[simp] theorem Timer.incrementIf_div (t : Timer) (fell : Bool) : (t.incrementIf fell).div = t.div := by
  cases fell with
  | false => rfl
  | true => exact t.increment_div

@[simp] theorem Timer.advancePhase_div (t : Timer) : t.advancePhase.div = t.div := by
  unfold Timer.advancePhase
  split <;> rfl

@[simp] theorem moveCounter_div (ds : Bool) (t : Timer) (a : Apu) (d : BitVec 16) : (moveCounter ds t a d).1.div = d :=
  Timer.incrementIf_div _ _

theorem timerCount_div (ds : Bool) (n : Nat) (r : Timer × Apu) :
    (timerCount ds n r).1.div = r.1.div + BitVec.ofNat 16 n := by
  induction n generalizing r with
  | zero => exact (BitVec.add_zero _).symm
  | succ n ih =>
    rw [timerCount, ih, moveCounter_div, BitVec.add_assoc, BitVec.add_comm 1, BitVec.ofNat_add]
    rfl

theorem State.tick_timer_div (s : State) : s.tick.timer.div = s.timer.div + 4 := by
  show (timerCount s.bus.doubleSpeed 4 (s.timer.advancePhase, s.apu)).1.div = _
  rw [timerCount_div, Timer.advancePhase_div]
  rfl

theorem State.resetDiv_timer_div (s : State) : s.resetDiv.timer.div = 0 := moveCounter_div s.bus.doubleSpeed s.timer s.apu 0

/-! ### NOP, DI and EI (R340, R343, R344) -/

theorem di_eq (s : State) : di s = .next ((s.ticks 1).withCpu { s.cpu with ime := .disabled }) := finish_withCpu s _

theorem ei_eq (s : State) :
    ei s = .next ((s.ticks 1).withCpu { s.cpu with ime := if s.cpu.ime = .disabled then .pending else s.cpu.ime }) := by
  rw [ei]
  split
  · exact finish_withCpu s _
  · exact finish_withCpu s s.cpu

/-! ### HALT (R342) -/

theorem halt_eq_of_imePending {s : State} (h : s.cpu.ime = .pending) :
    halt s = .next ((s.ticks 1).withCpu { s.cpu with ime := .enabled, pc := s.cpu.pc - 1 }) := by
  rw [halt, if_pos h, finish_withCpu]

theorem halt_eq_of_irqPending {s : State} (h : s.cpu.ime ≠ .pending) (hp : s.irq.pending = true) :
    halt s = .next ((s.ticks 1).withCpu
      { s.cpu with haltBug := if s.cfg.haltBug = true ∧ s.cpu.ime = .disabled then true else s.cpu.haltBug }) := by
  rw [halt, if_neg h, if_pos hp]
  split
  · exact finish_withCpu s _
  · exact finish_withCpu s s.cpu

theorem halt_eq_of_not_irqPending {s : State} (h : s.cpu.ime ≠ .pending) (hp : s.irq.pending = false) :
    halt s = .next ((s.ticks 1).withCpu { s.cpu with run := .halted }) := by
  rw [halt, if_neg h, if_neg (ne_true_of_eq_false hp), State.setRun, finish_withCpu]

/-! ### STOP (R341) -/

theorem State.switchSpeed_bus (s : State) :
    s.switchSpeed.bus = { s.bus with doubleSpeed := !s.bus.doubleSpeed, keyArmed := false } := rfl

theorem State.switchSpeed_cpu (s : State) : s.switchSpeed.cpu = { s.cpu with run := switchingMode s.cfg.speedSwitchT } := rfl

theorem State.switchSpeed_timer_div (s : State) : s.switchSpeed.timer.div = 0 := State.resetDiv_timer_div _

theorem stop_eq_of_armed {s : State} (n : Byte) (hc : s.cfg.cgbMode = true) (ha : s.bus.keyArmed = true) :
    stop n s = .next s.switchSpeed.tick := by
  rw [stop, if_pos (by rw [hc, ha]; rfl), finish]

theorem stop_eq_of_not_armed {s : State} (n : Byte) (h : ¬ (s.cfg.cgbMode = true ∧ s.bus.keyArmed = true)) :
    stop n s = s.refuses (.stopMode s.cpu.opcodeAddr) := by
  rw [stop, if_neg (by rwa [Bool.and_eq_true])]

end Sys2Proof.Machine
end

section
/-! The obligations about system instructions (45_system.md). -/

namespace Sys2Proof.Machine

/-- Settles O29: each is one device tick, and the tick does not see the ime that DI and EI write. -/
theorem nopDiEi : Obligations.NopDiEi := by
  unfold Obligations.NopDiEi
  exact fun i s =>
    ⟨fun hi => (exec_of_form hi s).trans (finish_eq s),
     fun hi => (exec_of_form hi s).trans (di_eq s),
     fun hi => (exec_of_form hi s).trans (ei_eq s)⟩

/-- Settles O30: the three cases are the branches of `halt`, ime before the pending interrupts. -/
theorem haltCases : Obligations.HaltCases := by
  unfold Obligations.HaltCases
  exact fun i s hi =>
    ⟨fun h => (exec_of_form hi s).trans (halt_eq_of_imePending h),
     fun h hp => (exec_of_form hi s).trans (halt_eq_of_irqPending h hp),
     fun h hp => (exec_of_form hi s).trans (halt_eq_of_not_irqPending h hp)⟩

/-- Settles O31: the divider is 0 after the switch, and the tick that ends the M-cycle counts it four times. -/
theorem stopCases : Obligations.StopCases := by
  unfold Obligations.StopCases
  intro i n s hi
  constructor
  · intro hc ha
    have hdiv : s.switchSpeed.tick.timer.div = 4 := by
      rw [State.tick_timer_div, State.switchSpeed_timer_div]
      rfl
    exact ⟨s.switchSpeed.tick, (exec_of_form hi s).trans (stop_eq_of_armed n hc ha), s.switchSpeed_bus, hdiv, s.switchSpeed_cpu⟩
  · exact fun h => (exec_of_form hi s).trans (stop_eq_of_not_armed n h)

end Sys2Proof.Machine
end

section
/-! SUPPORT. Fetching (30_encoding.md R131), granted or refused: what is known of the instruction fetched and of the state it starts in. -/

namespace Sys2Proof.Machine

variable {s : State}

/-- A fetch in `s` can give instruction `i`, in state `t`. -/
structure Fetched (s : State) (i : Instr) (t : State) : Prop where
  wellFormed : i.wellFormed = true
  firstByte : (encode i).head? = some (s.readByte s.cpu.pc)
  ime : t.cpu.ime = s.cpu.ime
  unwritten : t.cpu.unwritten = s.cpu.unwritten

theorem Fetched.allWritten {i : Instr} {t : State} (h : Fetched s i t) (hs : s.allWritten) : t.allWritten := h.unwritten.trans hs

theorem fetched_of_encode {i : Instr} {t : State} {rest : List Byte} (hbytes : encode i = s.readByte s.cpu.pc :: rest)
    (hprefix : encode i ≠ [0xCB]) (hcpu : ∃ pc, t.cpu = { s.opcodeFetched.cpu with pc := pc }) : Fetched s i t := by
  obtain ⟨pc, hcpu⟩ := hcpu
  rw [State.opcodeFetched_cpu] at hcpu
  exact ⟨wellFormed_of_encode_ne hprefix, by rw [hbytes]; rfl, by rw [hcpu], by rw [hcpu]⟩

theorem fetched_decodeCb {op2 : Byte} {t : State} (hop : s.readByte s.cpu.pc = 0xCB)
    (hcpu : ∃ pc, t.cpu = { s.opcodeFetched.cpu with pc := pc }) : Fetched s (decodeCb op2) t :=
  fetched_of_encode (by rw [encode_decodeCb, hop]) (by rw [encode_decodeCb]; exact nofun) hcpu

theorem fetched_decodePlain {n : Byte} {nn : Word} {t : State} (hop : s.readByte s.cpu.pc ≠ 0xCB)
    (hcpu : ∃ pc, t.cpu = { s.opcodeFetched.cpu with pc := pc }) : Fetched s (decodePlain (s.readByte s.cpu.pc) n nn) t :=
  fetched_of_encode (encode_decodePlain _ _ _) (by rw [encode_decodePlain]; exact fun e => hop (List.cons.inj e).1) hcpu

/-- A fetched byte goes on with another pc, unless the fetch is refused. -/
theorem State.fetchNext_cases (s : State) (k : Byte → State → Result) :
    (∃ q, s.fetchNext k = .refused q) ∨ ∃ v t pc, t.cpu = { s.cpu with pc := pc } ∧ s.fetchNext k = k v t := by
  unfold State.fetchNext State.readNext State.busRead
  split
  · exact .inl ⟨_, rfl⟩
  · exact .inr ⟨_, s.tick.setPc (s.cpu.pc + 1), _, rfl, rfl⟩

/-- An instruction's fetch goes on with what was fetched, unless one of its fetches is refused. -/
theorem State.fetchInstr_cases (s : State) (k : Instr → State → Result) :
    (∃ q, s.fetchInstr k = .refused q) ∨ ∃ i t, Fetched s i t ∧ s.fetchInstr k = k i t := by
  cases hread : s.readRefusal s.cpu.pc with
  | some c =>
    rw [State.fetchInstr, State.fetchOpcode, State.busRead_refused ((State.readRefusal_withCpu _ _ _).trans hread)]
    exact .inl ⟨_, rfl⟩
  | none =>
    rw [State.fetchInstr, State.fetchOpcode_eq hread, State.fetchRest]
    split_ifs with hcb h1 h2
    · obtain h | ⟨op2, t, pc, hcpu, e⟩ := s.opcodeFetched.fetchNext_cases fun op2 t => k (decodeCb op2) t
      · exact .inl h
      · exact .inr ⟨_, t, fetched_decodeCb hcb ⟨pc, hcpu⟩, e⟩
    · exact .inr ⟨_, _, fetched_decodePlain hcb ⟨_, rfl⟩, rfl⟩
    · obtain h | ⟨n, t, pc, hcpu, e⟩ := s.opcodeFetched.fetchNext_cases fun n t => k (decodePlain (s.readByte s.cpu.pc) n 0) t
      · exact .inl h
      · exact .inr ⟨_, t, fetched_decodePlain hcb ⟨pc, hcpu⟩, e⟩
    · obtain h | ⟨lo, t, pc, hcpu, e⟩ := s.opcodeFetched.fetchNext_cases fun lo t =>
        t.fetchNext fun hi u => k (decodePlain (s.readByte s.cpu.pc) 0 (mkWord hi lo)) u
      · exact .inl h
      rw [e]
      obtain h | ⟨hi, u, pc', hcpu', e'⟩ := t.fetchNext_cases fun hi u => k (decodePlain (s.readByte s.cpu.pc) 0 (mkWord hi lo)) u
      · exact .inl h
      · exact .inr ⟨_, u, fetched_decodePlain hcb ⟨pc', by rw [hcpu', hcpu]⟩, e'⟩

end Sys2Proof.Machine
end

section
/-! SUPPORT. Which faults an operation can raise where every register is written (10_state.md R26, 60_exceptions.md R360): none of its own. -/

namespace Sys2Proof.Machine

/-- If the outcome is a fault, it satisfies `P`. -/
def IfFault (r : Result) (P : Fault → Prop) : Prop := ∀ f, r = .fault f → P f

variable {P : Fault → Prop} {s : State}

/-! ### Outcomes -/

theorem ifFault_next (t : State) : IfFault (.next t) P := fun _ e => by cases e

theorem ifFault_finish (t : State) : IfFault (finish t) P := ifFault_next _

theorem ifFault_refused (q : Refusal) : IfFault (.refused q) P := fun _ e => by cases e

theorem ifFault_fault {f : Fault} (h : P f) : IfFault (.fault f) P := fun _ e => by cases e; exact h

theorem ifFault_ite {c : Prop} [Decidable c] {x y : Result} (hx : IfFault x P) (hy : IfFault y P) :
    IfFault (if c then x else y) P := by
  split
  · exact hx
  · exact hy

theorem ifFault_promote {r : Result} (h : IfFault r P) (before : Ime) : IfFault (promote before r) P := by
  cases r with
  | next t => exact ifFault_next _
  | fault f => exact h
  | refused q => exact ifFault_refused _

/-! ### The M-cycles of a state with every register written -/

theorem ifFault_busRead {a : Word} {k : Byte → Result} (hk : ∀ v, IfFault (k v) P) : IfFault (s.busRead a k) P := by
  unfold State.busRead
  split
  · exact ifFault_refused _
  · exact hk _

theorem ifFault_busWrite {a : Word} {v : Byte} {k : State → Result} (hk : IfFault (k (s.writeByte a v)) P) :
    IfFault (s.busWrite a v k) P := by
  unfold State.busWrite
  split
  · exact ifFault_refused _
  · exact hk

namespace State.allWritten

theorem tick (hs : s.allWritten) : s.tick.allWritten := hs

theorem writeByte (hs : s.allWritten) (a : Word) (v : Byte) : (s.writeByte a v).allWritten := by
  unfold State.allWritten
  rw [State.writeByte_cpu]
  exact hs

theorem reading (hs : s.allWritten) {rs : List RegName} {k : Result} (hk : IfFault k P) : IfFault (s.reading rs k) P := by
  rwa [State.reading_written hs]

theorem readNext (hs : s.allWritten) {a : Word} {k : Byte → State → Result}
    (hk : ∀ v u, u.allWritten → IfFault (k v u) P) : IfFault (s.readNext a k) P :=
  ifFault_busRead fun v => hk v s.tick hs

theorem writeNext (hs : s.allWritten) {a : Word} {v : Byte} {k : State → Result}
    (hk : ∀ u, u.allWritten → IfFault (k u) P) : IfFault (s.writeNext a v k) P :=
  ifFault_busWrite (hk _ (hs.tick.writeByte a v))

/-- A last M-cycle that writes. -/
theorem store (hs : s.allWritten) {a : Word} {v : Byte} : IfFault (s.writeNext a v finish) P :=
  hs.writeNext fun _ _ => ifFault_finish _

theorem pushWord (hs : s.allWritten) {v : Word} {k : State → Result} (hk : ∀ u, u.allWritten → IfFault (k u) P) :
    IfFault (s.pushWord v k) P :=
  hs.reading ((State.setSp_allWritten hs _).writeNext fun _ hu => (State.setSp_allWritten hu _).writeNext hk)

theorem popWord (hs : s.allWritten) {k : Word → State → Result} (hk : ∀ v u, u.allWritten → IfFault (k v u) P) :
    IfFault (s.popWord k) P :=
  hs.tick.reading (hs.readNext fun _ _ hu => (State.setSp_allWritten hu _).readNext fun _ _ hw =>
    hk _ _ (State.setSp_allWritten hw _))

/-! ### Operands, calls and returns -/

theorem ifCond (hs : s.allWritten) {cc : Cond} {x y : Result} (hx : IfFault x P) (hy : IfFault y P) :
    IfFault (s.ifCond cc x y) P :=
  hs.reading (ifFault_ite hx hy)

theorem hlOperand (hs : s.allWritten) {k : Byte → State → Result} (hk : ∀ v u, u.allWritten → IfFault (k v u) P) :
    IfFault (s.hlOperand k) P :=
  hs.tick.reading (hs.readNext hk)

theorem modifyHl (hs : s.allWritten) {rs : List RegName} {g : Byte → State → Byte × State}
    (hg : ∀ v u, u.allWritten → (g v u).2.allWritten) : IfFault (s.modifyHl rs g) P :=
  hs.hlOperand fun v u hu => hu.reading (hg v u hu).store

theorem call (hs : s.allWritten) (nn : Word) : IfFault (call nn s) P :=
  hs.tick.pushWord fun _ _ => ifFault_finish _

theorem ret (hs : s.allWritten) : IfFault (ret s) P := hs.popWord fun _ _ _ => ifFault_finish _

theorem returnFromInterrupt (hs : s.allWritten) : IfFault s.returnFromInterrupt P := by
  unfold State.returnFromInterrupt
  exact hs.popWord fun _ _ _ => ifFault_finish _

end State.allWritten

/-- Every form but the byte 0xCB alone, which is no instruction, faults only as the illegal opcodes do. -/
theorem form_ifFault {f : Form} (hcb : f ≠ .cbPage) (hs : s.allWritten) (hill : ∀ op, f = .illegal op → IfFault (illegal op s) P) :
    IfFault (f.run s) P := by
  unfold Form.run
  cases f with
  | ldRegImm | ldPairImm | scf | jp | jr | nop | di | ei => exact ifFault_finish _
  | ldRegReg | aluReg | aluImm | incReg | decReg | daa | cpl | ccf | rotA | rotReg | bitReg | resReg | setReg | jpHl =>
    exact hs.reading (ifFault_finish _)
  | ldSpHl | incPair | decPair | addHl | addSp | ldHlSp => exact hs.tick.reading (ifFault_finish _)
  | ldMemReg | ldMemImm | ldPtrA | ldAbsA | ldhCA | ldhImmA => exact hs.tick.reading hs.store
  | ldAPtr | ldhAC => exact hs.tick.reading (hs.readNext fun _ _ _ => ifFault_finish _)
  | ldAAbs | ldhAImm => exact hs.readNext fun _ _ _ => ifFault_finish _
  | ldHlIncA | ldHlDecA => exact hs.tick.reading (hs.writeNext fun _ _ => ifFault_finish _)
  | ldAbsSp => exact hs.tick.reading (hs.writeNext fun _ hu => hu.store)
  | ldRegMem | ldAHlInc | ldAHlDec | bitMem => exact hs.hlOperand fun _ _ _ => ifFault_finish _
  | aluMem => exact hs.hlOperand fun _ _ hu => hu.reading (ifFault_finish _)
  | incMem | decMem | rotMem => exact hs.modifyHl fun _ _ hu => State.setF_allWritten hu _
  | resMem | setMem => exact hs.modifyHl fun _ _ hu => hu
  | jpCc | jrCc => exact hs.ifCond (ifFault_finish _) (ifFault_finish _)
  | push => exact hs.tick.reading (hs.tick.pushWord fun _ _ => ifFault_finish _)
  | rst => exact hs.tick.pushWord fun _ _ => ifFault_finish _
  | call nn => exact hs.call nn
  | callCc cc nn => exact hs.ifCond (hs.call nn) (ifFault_finish _)
  | pop => exact hs.popWord fun _ _ _ => ifFault_finish _
  | ret => exact hs.ret
  | retCc => exact hs.tick.ifCond hs.tick.ret (ifFault_finish _)
  | reti => exact hs.returnFromInterrupt
  | stop => exact ifFault_ite (ifFault_finish _) (ifFault_refused _)
  | halt => exact ifFault_ite (ifFault_finish _) (ifFault_ite (ifFault_ite (ifFault_finish _) (ifFault_finish _)) (ifFault_finish _))
  | illegal op => exact hill op rfl
  | cbPage => exact absurd rfl hcb

theorem mem_illegalOpcodes_of_form {i : Instr} {op : Byte} (h : i.form = .illegal op) : op ∈ illegalOpcodes := by
  cases i with
  | illegalD3 | illegalDB | illegalDD | illegalE3 | illegalE4 | illegalEB | illegalEC | illegalED | illegalF4 | illegalFC | illegalFD =>
    cases h
    decide
  | _ => cases h

/-- A well-formed instruction faults only as an illegal opcode does. -/
theorem exec_ifFault {i : Instr} (hi : i.wellFormed = true) (hs : s.allWritten)
    (hill : ∀ op ∈ illegalOpcodes, IfFault (illegal op s) P) : IfFault (exec i s) P := by
  rw [exec_form]
  exact form_ifFault (form_ne_cbPage hi) hs fun op h => hill op (mem_illegalOpcodes_of_form h)

theorem dispatchInterrupt_ifFault (hs : s.allWritten) : IfFault s.dispatchInterrupt P :=
  hs.tick.reading (ifFault_ite (ifFault_refused _) (hs.tick.pushWord fun _ _ => ifFault_finish _))

theorem fetchInstr_ifFault {k : Instr → State → Result} (hk : ∀ i t, Fetched s i t → IfFault (k i t) P) : IfFault (s.fetchInstr k) P := by
  obtain ⟨q, h⟩ | ⟨i, t, hfetched, h⟩ := s.fetchInstr_cases k <;> rw [h]
  · exact ifFault_refused q
  · exact hk i t hfetched

/-- The fault is that of an illegal opcode, in a state with every register written (30_encoding.md R140). -/
def Fault.ofIllegalOpcode (f : Fault) : Prop :=
  f.left.allWritten ∧ f.left.faultWf ∧ ∃ op addr t, f = .illegalOpcode op addr t ∧ op ∈ illegalOpcodes

theorem faults_ofIllegalOpcode {op : Byte} (hop : op ∈ illegalOpcodes) (addr : Word) (hs : s.allWritten) :
    IfFault (s.faults (.illegalOpcode op addr)) Fault.ofIllegalOpcode :=
  ifFault_fault ⟨hs, fun _ e => ⟨op, addr, (RunMode.faulted.inj e).symm, hop⟩, op, addr, _, rfl, hop⟩

theorem State.live.faultWf (h : s.live) : s.faultWf := fun c e => absurd e (h.1 c)

/-- The one fault of a step from a state with every register written is an illegal opcode's. -/
theorem step_ifFault (hs : s.allWritten) (hf : s.faultWf) : IfFault (step s) Fault.ofIllegalOpcode := by
  cases h : s.cpu.run with
  | running =>
    rw [step_of_running h]
    refine ifFault_ite (dispatchInterrupt_ifFault hs) (fetchInstr_ifFault fun i t ht => ifFault_promote ?_ _)
    have hw : t.allWritten := ht.allWritten hs
    exact exec_ifFault ht.wellFormed hw fun op hop => faults_ofIllegalOpcode hop _ hw
  | halted =>
    rw [step_of_halted h]
    exact ifFault_next _
  | switching n =>
    rw [step_of_switching h]
    exact ifFault_next _
  | faulted c =>
    obtain ⟨op, addr, rfl, hop⟩ := hf c h
    rw [step_of_faulted h]
    exact faults_ofIllegalOpcode hop addr hs
  | refused c =>
    rw [step_of_refused h]
    exact ifFault_refused _

/-- No step makes a written register unwritten. -/
theorem kept_allWritten : Kept State.allWritten where
  tick _ h := h
  write _ a v _ h := h.writeByte a v
  cpu s c hc h := List.eq_nil_iff_forall_not_mem.2 fun r hr => by
    have hmem : r ∈ s.cpu.unwritten := hc.2 r hr
    rw [h] at hmem
    exact List.not_mem_nil hmem
  acknowledge _ _ h := h
  speed _ h := h

end Sys2Proof.Machine
end

section
/-! SUPPORT. EI's delay (60_exceptions.md R364): ime over an instruction that began with it Pending, and its promotion after it. -/

namespace Sys2Proof.Machine

/-- RETI enables interrupts at once (R370). -/
theorem State.returnFromInterrupt_ime (s : State) : IfNext s.returnFromInterrupt fun t => t.cpu.ime = .enabled := by
  unfold State.returnFromInterrupt State.popWord
  exact ifNext_reading (ifNext_readNext (ifNext_readNext (ifNext_next.2 rfl)))

/-- The first byte of an instruction of DI's form is 0xF3 (45_system.md R343). -/
theorem firstByte_of_form_di {i : Instr} (h : i.form = .di) : (encode i).head? = some 0xF3 := by
  rw [encode, h]
  decide

/-- Of the forms that write ime, DI alone disables interrupts that were Pending. -/
theorem form_ime_of_pending {f : Form} (hcb : f ≠ .cbPage) {s : State} (hs : s.cpu.ime = .pending) :
    IfNext (f.run s) fun t => t.cpu.ime = .disabled → f = .di := by
  have of_not_disabled {t : State} (h : t.cpu.ime ≠ .disabled) : t.cpu.ime = .disabled → f = .di := fun e => absurd e h
  cases hf : f.writesIme with
  | false =>
    refine (form_frame hcb s).mono fun t h => of_not_disabled ?_
    rw [h.ime hf, hs]
    exact nofun
  | true =>
    cases f with
    | di => exact fun t _ _ => rfl
    | ei =>
      rw [Form.run, ei_eq, hs]
      exact ifNext_next.2 (of_not_disabled nofun)
    | halt =>
      rw [Form.run, halt_eq_of_imePending hs]
      exact ifNext_next.2 (of_not_disabled nofun)
    | reti =>
      refine s.returnFromInterrupt_ime.mono fun t h => of_not_disabled ?_
      rw [h]
      exact nofun
    | _ => cases hf

theorem State.promoteIme_of_pending (s : State) :
    (s.promoteIme .pending).cpu.ime = if s.cpu.ime = .pending then .enabled else s.cpu.ime := by
  unfold State.promoteIme
  simp only [true_and]
  split <;> rfl

/-- Promotion leaves ime Enabled, or Disabled as the instruction left it (R364). -/
theorem State.promoteIme_cases (s : State) : (s.promoteIme .pending).cpu.ime = .enabled ∨
    (s.promoteIme .pending).cpu.ime = .disabled ∧ s.cpu.ime = .disabled := by
  rw [State.promoteIme_of_pending]
  cases s.cpu.ime with
  | disabled => exact .inr ⟨rfl, rfl⟩
  | enabled | pending => exact .inl rfl

theorem ifNext_promote {r : Result} {before : Ime} {P : State → Prop} (h : IfNext r fun t => P (t.promoteIme before)) :
    IfNext (promote before r) P := by
  cases r with
  | next s => exact ifNext_next.2 (h s rfl)
  | fault f => exact ifNext_fault f
  | refused q => exact ifNext_refused q

/-- A step that begins with ime Pending takes no interrupt, and ends with ime Enabled or ran DI. -/
theorem step_ime_of_pending {s : State} (hrun : s.cpu.run = .running) (hime : s.cpu.ime = .pending) :
    IfNext (step s) fun t => t.cpu.ime = .enabled ∨ t.cpu.ime = .disabled ∧ s.readByte s.cpu.pc = 0xF3 := by
  have htakes : s.takesInterrupt = false := by rw [State.takesInterrupt, hime]; rfl
  rw [step_of_running hrun, htakes, if_neg Bool.false_ne_true, hime]
  obtain ⟨q, h⟩ | ⟨i, t, hfetched, h⟩ := s.fetchInstr_cases fun i t => promote .pending (exec i t) <;> rw [h]
  · exact ifNext_refused q
  · rw [exec_form]
    have hform := form_ime_of_pending (form_ne_cbPage hfetched.wellFormed) (hfetched.ime.trans hime)
    refine ifNext_promote (hform.mono fun u hu => u.promoteIme_cases.imp_right fun hdisabled => ⟨hdisabled.1, ?_⟩)
    exact Option.some.inj (hfetched.firstByte.symm.trans (firstByte_of_form_di (hu hdisabled.2)))

end Sys2Proof.Machine
end

section
/-! SUPPORT. Taking an interrupt (60_exceptions.md R362, R363, R366, R367). -/

namespace Sys2Proof.Machine

/-- A source is in the pending set where IE and IF both have its bit (R362). -/
theorem Irq.pendingSet_getLsbD (q : Irq) (n : Nat) : q.pendingSet.getLsbD n = (q.ie.getLsbD n && q.iflag.getLsbD n) := by
  rw [Irq.pendingSet, BitVec.getLsbD_and, BitVec.getLsbD_setWidth]
  by_cases hn : n < 5
  · rw [decide_eq_true hn, Bool.true_and]
  · rw [BitVec.getLsbD_of_ge q.iflag n (Nat.not_lt.1 hn), Bool.and_false, Bool.and_false]

/-- A pending set with none of its first four sources has the fifth. -/
theorem Irq.pendingSet_joypad {q : Irq} (h : q.pending = true) (hlow : ∀ n < 4, ¬ q.pendingSet.getLsbD n = true) :
    q.pendingSet.getLsbD 4 = true := by
  by_contra h4
  have hnone (n : Nat) (hn : n < 5) : ¬ q.pendingSet.getLsbD n = true := by
    obtain hn | rfl : n < 4 ∨ n = 4 := by omega
    · exact hlow n hn
    · exact h4
  exact bne_iff_ne.1 h (BitVec.eq_of_getLsbD_eq fun n hn => (Bool.eq_false_iff.2 (hnone n hn)).trans BitVec.getLsbD_zero.symm)

/-- The source chosen is pending, and none below it is (R363, R367). -/
theorem Irq.lowest_spec {q : Irq} (h : q.pending = true) :
    q.pendingSet.getLsbD q.lowest.number = true ∧ ∀ n < q.lowest.number, ¬ q.pendingSet.getLsbD n = true := by
  unfold Irq.lowest
  split_ifs with h0 h1 h2 h3
  · exact ⟨h0, fun n hn => absurd hn (Nat.not_lt_zero n)⟩
  · exact ⟨h1, fun n (hn : n < 1) => by interval_cases n; assumption⟩
  · exact ⟨h2, fun n (hn : n < 2) => by interval_cases n <;> assumption⟩
  · exact ⟨h3, fun n (hn : n < 3) => by interval_cases n <;> assumption⟩
  · have hlow (n : Nat) (hn : n < 4) : ¬ q.pendingSet.getLsbD n = true := by interval_cases n <;> assumption
    exact ⟨Irq.pendingSet_joypad h hlow, hlow⟩

/-- The high byte of a push goes to IE where SP is 0 (R366). -/
theorem sub_one_eq_ie_iff (sp : Word) : sp - 1 = 0xFFFF ↔ sp = 0 := ⟨fun h => by bv_omega, fun h => by bv_omega⟩

theorem step_of_takesInterrupt {s : State} (hrun : s.cpu.run = .running) (hime : s.cpu.ime = .enabled) (hp : s.irq.pending = true) :
    step s = s.dispatchInterrupt := by
  have htakes : s.takesInterrupt = true := by rw [State.takesInterrupt, hime, hp]; rfl
  rw [step_of_running hrun, if_pos htakes]

theorem State.acknowledge_withCpu (s : State) (c : Cpu) (i : Interrupt) :
    (s.withCpu c).acknowledge i = ({ s with irq := s.irq.acknowledge i } : State).withCpu { c with ime := .disabled } := rfl

/-- A dispatch whose push is granted: two M-cycles after the push, with the request cleared (R366). -/
theorem State.dispatchInterrupt_eq {s : State} (hw : s.allWritten) (hsp : s.cpu.sp ≠ 0) (hpush : s.pushGranted s.cpu.pc) :
    s.dispatchInterrupt = .next
      ((({ s.pushed s.cpu.pc with irq := (s.pushed s.cpu.pc).irq.acknowledge s.irq.lowest } : State).ticks 2).withCpu
        { s.cpu with sp := s.cpu.sp - 2, pc := s.irq.lowest.vector, ime := .disabled }) := by
  unfold State.dispatchInterrupt
  simp only
  rw [State.internalNext_eq, State.reading_written (State.ticks_allWritten hw 1), State.ticks_cpu,
    if_neg (mt (sub_one_eq_ie_iff _).1 hsp), State.pushWord_eq hw hpush,
    State.acknowledge_withCpu, State.internalNext_eq, State.ticks_withCpu, State.setPc, State.withCpu_withCpu, finish_withCpu,
    State.ticks_ticks]
  rfl

/-- A dispatch whose high byte would go to IE is refused in its third M-cycle (R366). -/
theorem State.dispatchInterrupt_refused {s : State} (hw : s.allWritten) (hsp : s.cpu.sp = 0) :
    s.dispatchInterrupt = .refused (.dispatchIePush 0xFFFF
      ((s.ticks 2).withCpu { s.cpu with sp := 0xFFFF, run := .refused (.dispatchIePush 0xFFFF) })) := by
  unfold State.dispatchInterrupt
  simp only
  rw [State.internalNext_eq, State.reading_written (State.ticks_allWritten hw 1), State.ticks_cpu,
    if_pos ((sub_one_eq_ie_iff _).2 hsp), (sub_one_eq_ie_iff _).2 hsp, State.setSp_written (State.ticks_allWritten hw 1),
    State.internalNext_eq, State.ticks_withCpu, State.ticks_ticks]
  simp only [State.refuses, State.setRun, State.withCpu_withCpu, State.withCpu_cpu, State.ticks_cpu]

end Sys2Proof.Machine
end

section
/-! SUPPORT. The timer's signal (60_exceptions.md R381): where it falls, how often at most, and what `n` counts make of TIMA. -/

namespace Sys2Proof.Machine

/-! ### A bit of a counter falls where the counter reaches a multiple of twice its weight -/

theorem testBit_falls (n b : Nat) : (n.testBit b && !(n + 1).testBit b) = decide (2 ^ (b + 1) ∣ n + 1) := by
  have hcarry : (n + 1) / 2 ^ b = n / 2 ^ b + if 2 ^ b ∣ n + 1 then 1 else 0 := Nat.succ_div
  have hdvd : 2 ^ (b + 1) ∣ n + 1 ↔ 2 ^ b ∣ n + 1 ∧ 2 ∣ (n + 1) / 2 ^ b := by
    constructor
    · intro h
      have hb : 2 ^ b ∣ n + 1 := (pow_dvd_pow 2 b.le_succ).trans h
      exact ⟨hb, (Nat.dvd_div_iff_mul_dvd hb).2 h⟩
    · exact fun ⟨hb, h⟩ => (Nat.dvd_div_iff_mul_dvd hb).1 h
  rw [Bool.eq_iff_iff, Bool.and_eq_true, Bool.not_eq_true', decide_eq_true_iff, hdvd, Nat.testBit_eq_decide_div_mod_eq,
    Nat.testBit_eq_decide_div_mod_eq, decide_eq_true_iff, decide_eq_false_iff_not]
  by_cases hb : 2 ^ b ∣ n + 1
  · rw [if_pos hb] at hcarry
    simp only [hb, true_and]
    omega
  · rw [if_neg hb] at hcarry
    simp only [hb, false_and, iff_false]
    omega

theorem fallBit_bounds (tac : BitVec 3) : 3 ≤ fallBit tac ∧ fallBit tac ≤ 9 := by
  unfold fallBit
  split <;> decide

/-- The enabled timer's signal falls where the counter reaches a multiple of `2 ^ (fallbit + 1)`. -/
theorem timerSignal_falls (tac : BitVec 3) (n : Nat) :
    (timerSignal tac (BitVec.ofNat 16 n) && !timerSignal tac (BitVec.ofNat 16 (n + 1))) =
      (tac.getLsbD 2 && decide (2 ^ (fallBit tac + 1) ∣ n + 1)) := by
  have hbit : fallBit tac < 16 := by have := fallBit_bounds tac; omega
  unfold timerSignal
  rw [← testBit_falls, BitVec.getLsbD_ofNat, BitVec.getLsbD_ofNat, decide_eq_true hbit]
  cases tac.getLsbD 2 <;> simp

/-! ### Increments -/

theorem Timer.increment_ofNat {t : Timer} {q : Nat} (h : t.tima = BitVec.ofNat 8 q) (hq : q + 1 < 256) :
    t.increment = { t with tima := BitVec.ofNat 8 (q + 1) } := by
  have hne : t.tima ≠ 0xFF := by rw [h]; bv_omega
  rw [Timer.increment, if_neg hne, h, BitVec.ofNat_add]
  rfl

theorem Timer.incrementIf_withDiv (t : Timer) (fell : Bool) (d : BitVec 16) :
    { t.incrementIf fell with div := d } = ({ t with div := d } : Timer).incrementIf fell := by
  cases fell with
  | false => rfl
  | true =>
    simp only [Timer.incrementIf, Timer.increment, if_true]
    split <;> rfl

theorem Timer.incrementIf_or (t : Timer) {a b : Bool} (h : ¬ (a = true ∧ b = true)) :
    (t.incrementIf a).incrementIf b = t.incrementIf (a || b) := by
  cases a with
  | false => rfl
  | true =>
    cases b with
    | false => rfl
    | true => exact absurd ⟨rfl, rfl⟩ h

@[simp] theorem Timer.incrementIf_tac (t : Timer) (fell : Bool) : (t.incrementIf fell).tac = t.tac := by
  unfold Timer.incrementIf Timer.increment
  split_ifs <;> rfl

/-- An increment adds one, and is an overflow at 0xFF (R385). -/
theorem Timer.incrementIf_eq (t : Timer) (fell : Bool) : t.incrementIf fell =
    { t with
      tima := if fell then t.tima + 1 else t.tima
      phase := if fell = true ∧ t.tima = 0xFF then .overflow else t.phase } := by
  cases fell with
  | false => rfl
  | true =>
    simp only [Timer.incrementIf, Timer.increment, if_true, true_and]
    split
    next h =>
      rw [h]
      rfl
    next => rfl

/-! ### Counting -/

theorem timerCount_succ (ds : Bool) (n : Nat) (r : Timer × Apu) :
    timerCount ds (n + 1) r = moveCounter ds (timerCount ds n r).1 (timerCount ds n r).2 ((timerCount ds n r).1.div + 1) := by
  induction n generalizing r with
  | zero => rfl
  | succ n ih => rw [timerCount, ih, timerCount]

/-- Counting an enabled timer from 0, as long as TIMA does not overflow (R381). -/
theorem timerCount_from_zero (ds : Bool) {t : Timer} (a : Apu) (hdiv : t.div = 0) (htima : t.tima = 0) (hon : t.tac.getLsbD 2 = true)
    {n : Nat} (hn : n < 256 * 2 ^ (fallBit t.tac + 1)) :
    (timerCount ds n (t, a)).1 = { t with div := BitVec.ofNat 16 n, tima := BitVec.ofNat 8 (n / 2 ^ (fallBit t.tac + 1)) } := by
  induction n with
  | zero =>
    rw [Nat.zero_div]
    cases t
    subst hdiv htima
    rfl
  | succ n ih =>
    have hcarry := Nat.succ_div (a := n) (b := 2 ^ (fallBit t.tac + 1))
    have hquot : (n + 1) / 2 ^ (fallBit t.tac + 1) < 256 := Nat.div_lt_of_lt_mul (by rwa [Nat.mul_comm])
    have hnext : BitVec.ofNat 16 n + 1 = BitVec.ofNat 16 (n + 1) := (BitVec.ofNat_add n 1).symm
    rw [timerCount_succ, ih (by omega), moveCounter, hnext, timerSignal_falls, hon, Bool.true_and, hcarry]
    simp only
    by_cases hfalls : 2 ^ (fallBit t.tac + 1) ∣ n + 1
    · rw [if_pos hfalls] at hcarry ⊢
      rw [decide_eq_true hfalls, Timer.incrementIf, if_pos rfl, Timer.increment_ofNat rfl (by omega)]
    · rw [decide_eq_false hfalls, if_neg hfalls]
      rfl

/-! ### Up to sixteen counts -/

/-- The signal falls at the count after `j` others (R381). -/
def Timer.fallsAt (t : Timer) (j : Nat) : Bool :=
  timerSignal t.tac (t.div + BitVec.ofNat 16 j) && !timerSignal t.tac (t.div + BitVec.ofNat 16 (j + 1))

theorem Timer.fallsAt_dvd {t : Timer} {j : Nat} (h : t.fallsAt j = true) : 2 ^ (fallBit t.tac + 1) ∣ t.div.toNat + j + 1 := by
  have hsum (k : Nat) : t.div + BitVec.ofNat 16 k = BitVec.ofNat 16 (t.div.toNat + k) := by
    rw [BitVec.ofNat_add, BitVec.ofNat_toNat, BitVec.setWidth_eq]
  rw [Timer.fallsAt, hsum, hsum, ← Nat.add_assoc, timerSignal_falls, Bool.and_eq_true, decide_eq_true_iff] at h
  exact h.2

/-- Between two falls there are at least sixteen counts. -/
theorem Timer.fallsAt_once {t : Timer} {j k : Nat} (hjk : j < k) (hk : k < 16) : ¬ (t.fallsAt j = true ∧ t.fallsAt k = true) := by
  rintro ⟨hj, hk'⟩
  have hdvd : 2 ^ (fallBit t.tac + 1) ∣ k - j := by
    have h := Nat.dvd_sub (Timer.fallsAt_dvd hk') (Timer.fallsAt_dvd hj)
    rwa [show t.div.toNat + k + 1 - (t.div.toNat + j + 1) = k - j by omega] at h
  have hlong : 2 ^ 4 ≤ 2 ^ (fallBit t.tac + 1) :=
    Nat.pow_le_pow_right (by decide) (by have := fallBit_bounds t.tac; omega)
  have hle := Nat.le_of_dvd (by omega) hdvd
  omega

/-- Up to sixteen counts increment TIMA at most once. -/
theorem timerCount_timer (ds : Bool) (t : Timer) (a : Apu) {n : Nat} (hn : n ≤ 16) :
    (timerCount ds n (t, a)).1 = ({ t with div := t.div + BitVec.ofNat 16 n } : Timer).incrementIf ((List.range n).any t.fallsAt) := by
  induction n with
  | zero =>
    rw [BitVec.add_zero]
    rfl
  | succ n ih =>
    have hnext : t.div + BitVec.ofNat 16 n + 1 = t.div + BitVec.ofNat 16 (n + 1) := by rw [BitVec.add_assoc, BitVec.ofNat_add]; rfl
    have honce : ¬ ((List.range n).any t.fallsAt = true ∧ t.fallsAt n = true) := by
      rw [List.any_eq_true]
      rintro ⟨⟨j, hj, hfalls⟩, hlast⟩
      exact Timer.fallsAt_once (List.mem_range.1 hj) (by omega) ⟨hfalls, hlast⟩
    rw [timerCount_succ, ih (by omega), moveCounter, Timer.incrementIf_withDiv, Timer.incrementIf_div, Timer.incrementIf_tac]
    simp only [hnext]
    rw [List.range_succ, List.any_append, List.any_cons, List.any_nil, Bool.or_false]
    exact Timer.incrementIf_or _ honce

end Sys2Proof.Machine
end

section
/-! SUPPORT. What a device tick requests (60_exceptions.md R361, R386), and what it does to the timer. -/

namespace Sys2Proof.Machine

/-! ### Requests -/

theorem Interrupt.mask_getLsbD (i : Interrupt) (n : Nat) : i.mask.getLsbD n = decide (n = i.number) := by
  by_cases hn : n < 5
  · cases i <;> interval_cases n <;> decide
  · have hne : n ≠ i.number := by cases i <;> simp only [Interrupt.number] <;> omega
    rw [BitVec.getLsbD_of_ge _ _ (Nat.not_lt.1 hn), decide_eq_false hne]

theorem Irq.request_iflag (q : Irq) (i : Interrupt) (n : Nat) :
    (q.request i).iflag.getLsbD n = (q.iflag.getLsbD n || decide (n = i.number)) := by
  rw [Irq.request, BitVec.getLsbD_or, Interrupt.mask_getLsbD]

theorem Irq.requestIf_iflag (q : Irq) (c : Bool) (i : Interrupt) (n : Nat) :
    (q.requestIf c i).iflag.getLsbD n = (q.iflag.getLsbD n || (c && decide (n = i.number))) := by
  cases c with
  | false => rw [Bool.false_and, Bool.or_false]; rfl
  | true => rw [Bool.true_and]; exact q.request_iflag i n

/-- A request leaves the other sources' bits. -/
theorem Irq.requestIf_iflag_other (q : Irq) (c : Bool) {i : Interrupt} {n : Nat} (h : n ≠ i.number) :
    (q.requestIf c i).iflag.getLsbD n = q.iflag.getLsbD n := by
  rw [Irq.requestIf_iflag, decide_eq_false h, Bool.and_false, Bool.or_false]

/-! ### The PPU requests no source but VBlank and LCD-STAT (61_video_audio.md R468) -/

/-- The IF bits above LCD-STAT's are those of before. -/
def PpuRequests (q q' : Irq) : Prop := ∀ n, 2 ≤ n → q'.iflag.getLsbD n = q.iflag.getLsbD n

theorem PpuRequests.refl (q : Irq) : PpuRequests q q := fun _ _ => rfl

theorem PpuRequests.stat {q q' : Irq} (h : PpuRequests q q') (c : Bool) : PpuRequests q (q'.requestIf c .lcdStat) := fun n hn =>
  (q'.requestIf_iflag_other c (by simp only [Interrupt.number]; omega)).trans (h n hn)

theorem PpuRequests.vBlank {q q' : Irq} (h : PpuRequests q q') : PpuRequests q (q'.request .vBlank) := fun n hn =>
  (q'.requestIf_iflag_other true (by simp only [Interrupt.number]; omega)).trans (h n hn)

theorem enterLine_requests (r : PpuIrq) : PpuRequests r.2 (enterLine r).2 := by
  unfold enterLine
  split_ifs
  · exact (PpuRequests.refl _).stat _
  · exact (PpuRequests.refl _).vBlank.stat _
  · exact .refl _

theorem beginNextLine_requests (r : PpuIrq) : PpuRequests r.2 (beginNextLine r).2 := (enterLine_requests (_, r.2)).stat _

theorem visibleDot_requests (cfg : Params) (mem : Memory) (r : PpuIrq) : PpuRequests r.2 (visibleDot cfg mem r).2 := by
  have hentered : (if r.1.clock = 80 then enterDrawLine cfg mem r else r).2 = r.2 := by split <;> rfl
  unfold visibleDot
  generalize (if r.1.clock = 80 then enterDrawLine cfg mem r else r) = entered at hentered
  simp only
  split_ifs
  · exact .refl _
  · exact hentered ▸ .refl _
  · exact hentered ▸ (PpuRequests.refl _).stat _
  · exact hentered ▸ .refl _

theorem ppuDot_requests (cfg : Params) (mem : Memory) (r : PpuIrq) : PpuRequests r.2 (ppuDot cfg mem r).2 := by
  unfold ppuDot
  simp only
  split_ifs
  · exact .refl _
  · exact beginNextLine_requests r
  · exact visibleDot_requests cfg mem (_, r.2)
  · exact .refl _

theorem ppuRun_requests (cfg : Params) (mem : Memory) (n : Nat) (r : PpuIrq) : PpuRequests r.2 (ppuRun cfg mem n r).2 := by
  induction n generalizing r with
  | zero => exact .refl _
  | succ n ih => exact fun k hk => (ih _ k hk).trans (ppuDot_requests cfg mem r k hk)

/-! ### The tick (70_reset_and_hazards.md R581) -/

theorem State.tick_irq (s : State) : s.tick.irq =
    (serialTick s.cfg 4 (s.serial,
      (ppuRun s.cfg s.dmaMem s.normalT (s.ppu, s.irq)).2.requestIf (s.timer.phase = .overflow) .timer)).2.requestIf
      (s.joypad.lines &&& ~~~s.joypad.inputLines != 0) .joypad := rfl

theorem serialTick_iflag_timer (cfg : Params) (t : Nat) (r : Serial × Irq) :
    (serialTick cfg t r).2.iflag.getLsbD 2 = r.2.iflag.getLsbD 2 := by
  unfold serialTick
  repeat' split
  · rfl
  · exact r.2.requestIf_iflag_other true (i := .serial) (by decide)
  · rfl

/-- The timer's request is the one its overflow makes in the update after it (R386). -/
theorem State.tick_iflag_timer (s : State) :
    s.tick.irq.iflag.getLsbD 2 = (s.irq.iflag.getLsbD 2 || decide (s.timer.phase = .overflow)) := by
  rw [State.tick_irq, Irq.requestIf_iflag_other _ _ (by decide), serialTick_iflag_timer, Irq.requestIf_iflag,
    ppuRun_requests _ _ _ _ 2 le_rfl, show decide (2 = Interrupt.timer.number) = true from rfl, Bool.and_true]

@[simp] theorem Timer.advancePhase_tac (t : Timer) : t.advancePhase.tac = t.tac := by
  unfold Timer.advancePhase
  split <;> rfl

theorem Timer.advancePhase_fallsInTick (t : Timer) : t.advancePhase.fallsInTick = t.fallsInTick := by
  simp only [Timer.fallsInTick, Timer.advancePhase_tac, Timer.advancePhase_div]

/-- The timer after a tick: the phase's step, and one count if the signal falls among the four (R386). -/
theorem State.tick_timer (s : State) : s.tick.timer =
    ({ s.timer.advancePhase with div := s.timer.advancePhase.div + 4 } : Timer).incrementIf s.timer.fallsInTick := by
  rw [← Timer.advancePhase_fallsInTick]
  exact timerCount_timer s.bus.doubleSpeed s.timer.advancePhase s.tickDma.tickPpu.tickApu.apu (show 4 ≤ 16 by decide)

/-- The update after an overflow (R386). -/
theorem Timer.advancePhase_of_overflow {t : Timer} (h : t.phase = .overflow) :
    t.advancePhase = { t with tima := t.tma, phase := .overflowProcessed } := by
  unfold Timer.advancePhase
  rw [h]

/-- Every other update leaves TIMA, and ends in Normal (R386). -/
theorem Timer.advancePhase_of_ne_overflow {t : Timer} (h : t.phase ≠ .overflow) : t.advancePhase = { t with phase := .normal } := by
  unfold Timer.advancePhase
  split
  next => rfl
  next hphase => exact absurd hphase h
  next hphase => rw [← hphase]

end Sys2Proof.Machine
end

section
/-! SUPPORT. Writes of the timer's registers (60_exceptions.md R382, R383). -/

namespace Sys2Proof.Machine

/-- An I/O register selects no cell. -/
theorem State.key_io (s : State) {a : Word} (h1 : 0xFF00 ≤ a) (h2 : a < 0xFF80) : s.key a = none := by
  unfold State.key
  simp only [show ¬ a.toNat < 0x8000 by bv_omega, show ¬ a.toNat < 0xA000 by bv_omega, show ¬ a.toNat < 0xC000 by bv_omega,
    show ¬ a.toNat < 0xE000 by bv_omega, show ¬ a.toNat < 0xFE00 by bv_omega, show ¬ a.toNat < 0xFEA0 by bv_omega,
    show a.toNat < 0xFF80 by bv_omega, if_true, if_false]

/-- The lock covers no I/O register but the palette data (20_memory.md R98). -/
theorem State.locked_io (s : State) {a : Word} (h1 : 0xFF00 ≤ a) (h2 : a < 0xFF68) : s.locked a = false := by
  refine Bool.eq_false_iff.2 fun h => ?_
  simp only [State.locked, Bool.and_eq_true, Bool.or_eq_true, decide_eq_true_iff, beq_iff_eq] at h
  obtain ⟨-, ⟨-, hvram | ⟨-, hpalette⟩⟩ | ⟨-, hoam⟩⟩ := h <;> bv_omega

/-- A write of an I/O register below the palette data goes to `writeIo`. -/
theorem State.writeByte_io (s : State) {a : Word} (h1 : 0xFF00 ≤ a) (h2 : a < 0xFF68) (v : Byte) : s.writeByte a v = s.writeIo a v := by
  have hrom : ¬ a < 0x8000 := by bv_omega
  have hlow : ¬ a < 0xFF00 := by bv_omega
  have hio : a < 0xFF80 := by bv_omega
  rw [State.writeByte_of_unlocked (s.locked_io h1 h2), State.writeRouted, if_neg hrom, s.key_io h1 hio]
  simp only [hlow, hio, if_true, if_false]

theorem State.writeByte_tima (s : State) (v : Byte) : s.writeByte 0xFF05 v = { s with timer := s.timer.writeTima v } :=
  s.writeByte_io (by decide) (by decide) v

theorem State.writeByte_tma (s : State) (v : Byte) : s.writeByte 0xFF06 v = { s with timer := { s.timer with tma := v } } :=
  s.writeByte_io (by decide) (by decide) v

theorem State.writeByte_div (s : State) (v : Byte) : s.writeByte 0xFF04 v = s.resetDiv := s.writeByte_io (by decide) (by decide) v

/-- A DIV write: every bit of the counter that was 1 falls (R382; 61_video_audio.md R481). -/
theorem resetDiv_eq (ds : Bool) (t : Timer) (a : Apu) : resetDiv ds t a =
    (({ t with div := 0 } : Timer).incrementIf (timerSignal t.tac t.div), a.frameStepIf (t.div.getLsbD (frameBit ds))) := by
  have hsignal : timerSignal t.tac 0 = false := (congrArg _ BitVec.getLsbD_zero).trans (Bool.and_false _)
  have hframe : (0 : BitVec 16).getLsbD (frameBit ds) = false := BitVec.getLsbD_zero
  rw [resetDiv, moveCounter, hsignal, hframe, Bool.not_false, Bool.and_true, Bool.and_true]

end Sys2Proof.Machine
end

section
/-! SUPPORT. The serial port (60_exceptions.md R390) and the joypad (R393). -/

namespace Sys2Proof.Machine

theorem serialTick_of_complete {cfg : Params} {t n : Nat} {r : Serial × Irq} (h : r.1.elapsed = some n)
    (hn : serialPeriod cfg r.1 ≤ n + t) :
    serialTick cfg t r = ({ r.1 with sb := cfg.serialInByte, active := false, elapsed := none }, r.2.request .serial) := by
  rw [serialTick, h]
  exact if_pos hn

theorem serialTick_of_running {cfg : Params} {t n : Nat} {r : Serial × Irq} (h : r.1.elapsed = some n)
    (hn : n + t < serialPeriod cfg r.1) : serialTick cfg t r = ({ r.1 with elapsed := some (n + t) }, r.2) := by
  rw [serialTick, h]
  exact if_neg (Nat.not_le.2 hn)

/-- The serial port's part of a tick, whatever was requested before it. -/
theorem State.tick_serial (s : State) : ∃ q, s.tick.serial = (serialTick s.cfg 4 (s.serial, q)).1 ∧
    s.tick.irq.iflag.getLsbD 3 = (serialTick s.cfg 4 (s.serial, q)).2.iflag.getLsbD 3 :=
  ⟨_, rfl, by rw [State.tick_irq]; exact Irq.requestIf_iflag_other _ _ (by decide)⟩

theorem State.setKey_iflag_joypad (s : State) (k : Button) (pressed : Bool) : (s.setKey k pressed).irq.iflag.getLsbD 4 =
    (s.irq.iflag.getLsbD 4 || (s.joypad.lines &&& ~~~(s.setKey k pressed).joypad.inputLines != 0)) := by
  show (s.irq.requestIf _ .joypad).iflag.getLsbD 4 = _
  rw [Irq.requestIf_iflag, show decide (4 = Interrupt.joypad.number) = true from rfl, Bool.and_true]
  rfl

end Sys2Proof.Machine
end

section
/-! The obligations about exceptions (60_exceptions.md). -/

namespace Sys2Proof.Machine

/-- Settles O48: where every register is written no operation of a step faults but the illegal opcodes, and every operation keeps it. -/
theorem onlyIllegalOpcodesFault : Obligations.OnlyIllegalOpcodesFault := by
  unfold Obligations.OnlyIllegalOpcodesFault
  exact fun s hs hf => ⟨fun t h => ⟨kept_allWritten.step hs t h, (step_live s t h).faultWf⟩, step_ifFault hs hf⟩

/-- Settles O5: the source is chosen before the push, and only the push may be refused; SP = 0 is tested before it. -/
theorem dispatchTaken : Obligations.DispatchTaken := by
  unfold Obligations.DispatchTaken
  intro s hw hrun hime hp
  rw [step_of_takesInterrupt hrun hime hp]
  exact ⟨State.dispatchInterrupt_eq hw, State.dispatchInterrupt_refused hw⟩

/-- Settles O8: no interrupt is taken, and of the instructions DI alone leaves ime Disabled. -/
theorem imePromotion : Obligations.ImePromotion := by
  unfold Obligations.ImePromotion
  exact fun s t hrun hime h => step_ime_of_pending hrun hime t h

/-- Settles O57: TIMA counts the counter's multiples of `2 ^ (fallbit + 1)`. -/
theorem timerRate : Obligations.TimerRate := by
  unfold Obligations.TimerRate
  intro ds t a n hdiv htima _ hon hn
  rw [timerCount_from_zero ds a hdiv htima hon hn]

/-- Settles O58: an update is its phase's step and one count if the signal falls; the writes by what each does to the timer. -/
theorem timerOverflowAndDiv : Obligations.TimerOverflowAndDiv := by
  unfold Obligations.TimerOverflowAndDiv
  refine ⟨fun s h => ?overflow, fun s h => ?other, fun s v => ?tima, fun s v => ?div⟩
  case overflow =>
    rw [← State.tick_eq_ticks, State.tick_iflag_timer, State.tick_timer, Timer.advancePhase_of_overflow h, Timer.incrementIf_eq,
      decide_eq_true h]
    exact ⟨Bool.or_true _, rfl, rfl⟩
  case other =>
    rw [← State.tick_eq_ticks, State.tick_iflag_timer, State.tick_timer, Timer.advancePhase_of_ne_overflow h, Timer.incrementIf_eq,
      decide_eq_false h]
    exact ⟨Bool.or_false _, rfl, rfl⟩
  case tima =>
    rw [State.writeByte_tima, State.writeByte_tma, Timer.writeTima]
    exact ⟨fun h => by simp only [h], fun h => by simp only [h], fun h => by simp only [h], rfl⟩
  case div =>
    rw [State.writeByte_div, State.resetDiv, resetDiv_eq, Timer.incrementIf_eq]
    refine ⟨?_, rfl⟩
    simp only [timerSignal, Bool.and_eq_true, beq_iff_eq]

/-- Settles O59: a tick is one serial tick of four T-cycles, and a host key change samples the lines. -/
theorem serialAndJoypad : Obligations.SerialAndJoypad := by
  unfold Obligations.SerialAndJoypad
  refine ⟨fun s n h => ?_, State.setKey_iflag_joypad⟩
  rw [← State.tick_eq_ticks]
  obtain ⟨q, hserial, hirq⟩ := s.tick_serial
  rw [hserial, hirq]
  refine ⟨fun hn => ?_, fun hn => ?_⟩
  · rw [serialTick_of_complete h hn]
    exact ⟨rfl, by rw [Irq.request_iflag]; exact Bool.or_true _⟩
  · rw [serialTick_of_running h hn]

/-- Settles O6: the pending set's bits are those set in IE and IF. -/
theorem lowestSourceWins : Obligations.LowestSourceWins := by
  unfold Obligations.LowestSourceWins
  intro q hp
  have hspec := Irq.lowest_spec hp
  simpa only [Irq.pendingSet_getLsbD, Bool.and_eq_true, and_assoc] using hspec

end Sys2Proof.Machine
end

section
/-! SUPPORT. The PPU's position and mode (61_video_audio.md R461, R472). -/

namespace Sys2Proof.Machine

/-- Two PPUs agree in all that `Ppu.positionWf` looks at. -/
structure SamePosition (p q : Ppu) : Prop where
  lcdOn : q.lcdOn = p.lcdOn
  line : q.line = p.line
  clock : q.clock = p.clock
  mode : q.mode = p.mode

theorem SamePosition.positionWf {cfg : Params} {p q : Ppu} (h : SamePosition p q) (hp : p.positionWf cfg) : q.positionWf cfg := by
  rwa [Ppu.positionWf, h.lcdOn, h.line, h.clock, h.mode]

theorem SamePosition.trans {p q r : Ppu} (h : SamePosition p q) (h' : SamePosition q r) : SamePosition p r :=
  ⟨h'.lcdOn.trans h.lcdOn, h'.line.trans h.line, h'.clock.trans h.clock, h'.mode.trans h.mode⟩

theorem Ppu.positionWf_iff_of_on {cfg : Params} {p : Ppu} (hon : p.lcdOn = true) :
    p.positionWf cfg ↔ p.line < 154 ∧ p.clock < 456 ∧ p.mode = modeAt cfg p.line p.clock := by
  rw [Ppu.positionWf, if_pos hon]

theorem Ppu.positionWf_of_on {cfg : Params} {p : Ppu} (hon : p.lcdOn = true) (hline : p.line < 154) (hclock : p.clock < 456)
    (hmode : p.mode = modeAt cfg p.line p.clock) : p.positionWf cfg :=
  (Ppu.positionWf_iff_of_on hon).2 ⟨hline, hclock, hmode⟩

theorem Ppu.positionWf_of_off {cfg : Params} {p : Ppu} (hoff : p.lcdOn = false) (hline : p.line = 0) (hclock : p.clock = 0)
    (hmode : p.mode = .hBlank) : p.positionWf cfg := by
  rw [Ppu.positionWf, if_neg (Bool.eq_false_iff.1 hoff)]
  exact ⟨hline, hclock, hmode⟩

/-! ### The modes of a line -/

theorem modeAt_vBlank (cfg : Params) {line : Nat} (h : 144 ≤ line) (clock : Nat) : modeAt cfg line clock = .vBlank := if_pos h

theorem modeAt_oamScan (cfg : Params) {line clock : Nat} (h : line < 144) (hc : clock < 80) : modeAt cfg line clock = .oamScan := by
  rw [modeAt, if_neg (Nat.not_le.2 h), if_pos hc]

theorem modeAt_drawLine {cfg : Params} {line clock : Nat} (h : line < 144) (h1 : 80 ≤ clock)
    (h2 : clock < 80 + 160 * cfg.mode3TPerPixel) : modeAt cfg line clock = .drawLine := by
  rw [modeAt, if_neg (Nat.not_le.2 h), if_neg (Nat.not_lt.2 h1), if_pos h2]

theorem modeAt_hBlank {cfg : Params} {line clock : Nat} (h : line < 144) (hc : 80 + 160 * cfg.mode3TPerPixel ≤ clock) :
    modeAt cfg line clock = .hBlank := by
  rw [modeAt, if_neg (Nat.not_le.2 h), if_neg (by omega), if_neg (Nat.not_lt.2 hc)]

theorem nextLine_lt (line : Nat) : nextLine line < 154 := by
  unfold nextLine
  split <;> omega

/-- A line after VBlank's first follows one of VBlank's. -/
theorem le_of_lt_nextLine {line : Nat} (h : 144 < nextLine line) : 144 ≤ line := by
  unfold nextLine at h
  split at h <;> omega

/-! ### A line's start -/

theorem enterLine_lcdOn (r : PpuIrq) : (enterLine r).1.lcdOn = r.1.lcdOn := by
  unfold enterLine
  split_ifs <;> rfl

theorem enterLine_line (r : PpuIrq) : (enterLine r).1.line = r.1.line := by
  unfold enterLine
  split_ifs <;> rfl

theorem enterLine_clock (r : PpuIrq) : (enterLine r).1.clock = r.1.clock := by
  unfold enterLine
  split_ifs <;> rfl

/-- At clock 0 of a line the mode is the line's first, given that VBlank's lines but the first are entered in VBlank. -/
theorem enterLine_mode (cfg : Params) {r : PpuIrq} (h : 144 < r.1.line → r.1.mode = .vBlank) :
    (enterLine r).1.mode = modeAt cfg r.1.line 0 := by
  unfold enterLine
  split_ifs with hvisible hfirst
  · exact (modeAt_oamScan cfg hvisible (by decide)).symm
  · exact (modeAt_vBlank cfg hfirst.ge 0).symm
  · rw [modeAt_vBlank cfg (by omega) 0]
    exact h (by omega)

/-- The next line begins at clock 0, in the mode of its position. -/
theorem beginNextLine_positionWf {cfg : Params} {r : PpuIrq} (hon : r.1.lcdOn = true) (hmode : 144 ≤ r.1.line → r.1.mode = .vBlank) :
    (beginNextLine r).1.positionWf cfg := by
  have hline : (beginNextLine r).1.line = nextLine r.1.line := enterLine_line _
  have hclock : (beginNextLine r).1.clock = 0 := enterLine_clock _
  have hmodeAt : (beginNextLine r).1.mode = modeAt cfg (nextLine r.1.line) 0 :=
    enterLine_mode cfg fun hlater => hmode (le_of_lt_nextLine hlater)
  refine Ppu.positionWf_of_on ((enterLine_lcdOn _).trans hon) ?_ ?_ ?_
  · rw [hline]; exact nextLine_lt _
  · rw [hclock]; decide
  · rw [hline, hclock]; exact hmodeAt

/-! ### Inside a line -/

theorem drawDot_position (cfg : Params) (mem : Memory) (p : Ppu) : SamePosition p (drawDot cfg mem p) := by
  unfold drawDot
  simp only
  split
  · exact ⟨rfl, rfl, rfl, rfl⟩
  · exact ⟨rfl, rfl, rfl, rfl⟩

/-- The PPU of a visible line after the entry of DrawLine at clock 80: still in DrawLine at the clock that ends it. -/
theorem enteredDrawLine_position {cfg : Params} (mem : Memory) {r : PpuIrq} {c : Nat} (hline : r.1.line < 144)
    (hclock : r.1.clock = c + 1) (hmode : r.1.mode = modeAt cfg r.1.line c) (h80 : 80 ≤ r.1.clock) :
    SamePosition { r.1 with mode := if r.1.clock ≤ 80 + 160 * cfg.mode3TPerPixel then .drawLine else .hBlank }
      (if r.1.clock = 80 then enterDrawLine cfg mem r else r).1 := by
  split_ifs with hdraw hentry hentry
  · exact ⟨rfl, rfl, rfl, rfl⟩
  · exact ⟨rfl, rfl, rfl, hmode.trans (modeAt_drawLine hline (by omega) (by omega))⟩
  · omega
  · exact ⟨rfl, rfl, rfl, hmode.trans (modeAt_hBlank hline (by omega))⟩

/-- A T-cycle of a visible line leaves line and clock, and makes the mode the clock's. -/
theorem visibleDot_position {cfg : Params} (mem : Memory) {r : PpuIrq} {c : Nat} (hline : r.1.line < 144)
    (hclock : r.1.clock = c + 1) (hmode : r.1.mode = modeAt cfg r.1.line c) :
    SamePosition { r.1 with mode := modeAt cfg r.1.line r.1.clock } (visibleDot cfg mem r).1 := by
  by_cases hscan : r.1.clock < 80
  · rw [visibleDot, if_pos hscan]
    exact ⟨rfl, rfl, rfl, by rw [hmode, modeAt_oamScan cfg hline hscan, modeAt_oamScan cfg hline (by omega)]⟩
  have hentered := enteredDrawLine_position mem hline hclock hmode (Nat.not_lt.1 hscan)
  rw [visibleDot, if_neg hscan]
  generalize (if r.1.clock = 80 then enterDrawLine cfg mem r else r) = entered at hentered
  have hsame : entered.1.clock = r.1.clock := hentered.clock
  simp only [hsame]
  split_ifs with hdraw hleave
  · rw [modeAt_drawLine hline (Nat.not_lt.1 hscan) hdraw]
    rw [if_pos hdraw.le] at hentered
    exact hentered.trans (drawDot_position cfg mem entered.1)
  · rw [modeAt_hBlank hline hleave.ge]
    exact ⟨hentered.lcdOn, hentered.line, hentered.clock, rfl⟩
  · rw [modeAt_hBlank hline (Nat.not_lt.1 hdraw)]
    rwa [if_neg (by omega)] at hentered

theorem ppuDot_positionWf {cfg : Params} (mem : Memory) {r : PpuIrq} (h : r.1.positionWf cfg) :
    (ppuDot cfg mem r).1.positionWf cfg := by
  by_cases hon : r.1.lcdOn = true
  case neg =>
    rw [ppuDot, if_pos (by simpa using hon)]
    exact h
  obtain ⟨hline, hclock, hmode⟩ := (Ppu.positionWf_iff_of_on hon).1 h
  rw [ppuDot, if_neg (by simpa using hon)]
  simp only
  split_ifs with hlast hvisible
  · exact beginNextLine_positionWf hon fun h144 => hmode.trans (modeAt_vBlank cfg h144 _)
  all_goals have hclock' : r.1.clock + 1 < 456 := by omega
  · have hnext : Ppu.positionWf cfg { r.1 with clock := r.1.clock + 1, mode := modeAt cfg r.1.line (r.1.clock + 1) } :=
      Ppu.positionWf_of_on hon hline hclock' rfl
    exact (visibleDot_position (r := ({ r.1 with clock := r.1.clock + 1 }, r.2)) mem hvisible rfl hmode).positionWf hnext
  · have hvblank : 144 ≤ r.1.line := Nat.not_lt.1 hvisible
    have hstays : r.1.mode = modeAt cfg r.1.line (r.1.clock + 1) := by rw [hmode, modeAt_vBlank cfg hvblank, modeAt_vBlank cfg hvblank]
    exact Ppu.positionWf_of_on hon hline hclock' hstays

theorem ppuRun_positionWf {cfg : Params} (mem : Memory) (n : Nat) {r : PpuIrq} (h : r.1.positionWf cfg) :
    (ppuRun cfg mem n r).1.positionWf cfg := by
  induction n generalizing r with
  | zero => exact h
  | succ n ih => exact ih (ppuDot_positionWf mem h)

/-! ### Writes -/

theorem writeLcdc_off {r : PpuIrq} {v : Byte} (hon : r.1.lcdOn = true) (hv : v.getLsbD 7 = false) :
    writeLcdc r v = lcdOff ({ r.1 with lcdc := v }, r.2) := by
  have hoff : ({ r.1 with lcdc := v } : Ppu).lcdOn = false := hv
  simp only [writeLcdc, hon, hoff, Bool.not_false, Bool.and_true, if_true]

theorem writeLcdc_start {r : PpuIrq} {v : Byte} (hoff : r.1.lcdOn = false) (hv : v.getLsbD 7 = true) :
    writeLcdc r v = lcdStart ({ r.1 with lcdc := v }, r.2) := by
  have hon : ({ r.1 with lcdc := v } : Ppu).lcdOn = true := hv
  simp only [writeLcdc, hon, hoff, Bool.not_false, Bool.false_and, Bool.and_true, Bool.false_eq_true, if_false, if_true]

theorem writeLcdc_unswitched {r : PpuIrq} {v : Byte} (hv : v.getLsbD 7 = r.1.lcdOn) :
    writeLcdc r v = ({ r.1 with lcdc := v }, r.2) := by
  have hsame : ({ r.1 with lcdc := v } : Ppu).lcdOn = r.1.lcdOn := hv
  simp only [writeLcdc, hsame, Bool.and_not_self, Bool.not_and_self, Bool.false_eq_true, if_false]

theorem lcdOff_positionWf (cfg : Params) {r : PpuIrq} (hoff : r.1.lcdOn = false) : (lcdOff r).1.positionWf cfg :=
  Ppu.positionWf_of_off hoff rfl rfl rfl

theorem lcdStart_positionWf (cfg : Params) {r : PpuIrq} (hon : r.1.lcdOn = true) : (lcdStart r).1.positionWf cfg :=
  Ppu.positionWf_of_on hon (Nat.zero_lt_succ 153) (Nat.zero_lt_succ 455)
    (modeAt_oamScan cfg (line := 0) (clock := 0) (by decide) (by decide)).symm

theorem writeLcdc_positionWf {cfg : Params} {r : PpuIrq} (v : Byte) (h : r.1.positionWf cfg) :
    (writeLcdc r v).1.positionWf cfg := by
  by_cases hsame : v.getLsbD 7 = r.1.lcdOn
  · have hkept : SamePosition r.1 { r.1 with lcdc := v } := ⟨hsame, rfl, rfl, rfl⟩
    rw [writeLcdc_unswitched hsame]
    exact hkept.positionWf h
  have hswitch : r.1.lcdOn = !v.getLsbD 7 := Bool.eq_not.2 (Ne.symm hsame)
  cases hv : v.getLsbD 7 with
  | false =>
    rw [writeLcdc_off (by rw [hswitch, hv]; rfl) hv]
    exact lcdOff_positionWf cfg (r := ({ r.1 with lcdc := v }, r.2)) hv
  | true =>
    rw [writeLcdc_start (by rw [hswitch, hv]; rfl) hv]
    exact lcdStart_positionWf cfg (r := ({ r.1 with lcdc := v }, r.2)) hv

/-- A write changes the PPU's position only by switching the LCD, at LCDC. -/
theorem State.writeByte_position (s : State) (a : Word) (v : Byte) :
    SamePosition s.ppu (s.writeByte a v).ppu ∨ a = 0xFF40 ∧ (s.writeByte a v).ppu = (Machine.writeLcdc (s.ppu, s.irq) v).1 := by
  unfold State.writeByte State.writeRouted State.writeIo State.ifCgb
  repeat' split
  any_goals exact .inl ⟨rfl, rfl, rfl, rfl⟩
  next haddr => exact .inr ⟨BitVec.eq_of_toNat_eq haddr, rfl⟩

/-- The PPU's position is in range and its mode is the position's (61_video_audio.md R461, R472). -/
theorem kept_positionWf : Kept fun s => s.ppu.positionWf s.cfg where
  tick s h := by
    rw [State.tick_ppu]
    exact ppuRun_positionWf _ _ h
  write s a v _ h := by
    rw [State.writeByte_cfg]
    obtain hsame | ⟨-, hlcdc⟩ := s.writeByte_position a v
    · exact hsame.positionWf h
    · rw [hlcdc]
      exact writeLcdc_positionWf v h
  cpu _ _ _ h := h
  acknowledge _ _ h := h
  speed _ h := h

end Sys2Proof.Machine
end

section
/-! SUPPORT. The audio channels and their DACs (61_video_audio.md R488, R489): no operation of the APU leaves a channel on while its
DAC is off. -/

namespace Sys2Proof.Machine

theorem lengthTick_on {nrx4 : Byte} {len : Nat} {on : Bool} (h : (lengthTick nrx4 len on).2 = true) : on = true := by
  unfold lengthTick at h
  split at h
  · exact (Bool.and_eq_true_iff.1 h).1
  · exact h

namespace Apu.dacWf

variable {a : Apu}

/-! ### The frame sequencer (R481 to R484) -/

theorem tickLengths (h : a.dacWf) : a.tickLengths.dacWf := by
  obtain ⟨h1, h2, h3, h4⟩ := h
  exact ⟨fun hon => h1 (lengthTick_on hon), fun hon => h2 (lengthTick_on hon), fun hon => h3 (lengthTick_on hon),
    fun hon => h4 (lengthTick_on hon)⟩

/-- An overflow turns channel 1 off, and nothing else of the sweep touches it. -/
theorem sweepRecompute (h : a.dacWf) : a.sweepRecompute.dacWf := by
  obtain ⟨h1, hothers⟩ := h
  unfold Apu.sweepRecompute
  simp only
  split_ifs
  · exact ⟨nofun, hothers⟩
  · exact ⟨h1, hothers⟩
  · exact ⟨fun hon => h1 (Bool.and_eq_true_iff.1 hon).1, hothers⟩
  · exact ⟨h1, hothers⟩

theorem tickSweep (h : a.dacWf) : a.tickSweep.dacWf := by
  unfold Apu.tickSweep
  split
  · exact sweepRecompute (a := { a with sweep := { a.sweep with timer := a.sweepReload } }) h
  · exact h

theorem frameStep (h : a.dacWf) : a.frameStep.dacWf := by
  unfold Apu.frameStep
  split
  · exact h
  have hlengths : (if a.fsStep.getLsbD 0 then a else a.tickLengths).dacWf := by
    split
    · exact h
    · exact h.tickLengths
  generalize (if a.fsStep.getLsbD 0 then a else a.tickLengths) = afterLengths at hlengths
  simp only
  split_ifs
  · exact hlengths.tickSweep
  · exact hlengths
  · exact hlengths.tickSweep
  · exact hlengths

theorem frameStepIf (h : a.dacWf) (fell : Bool) : (a.frameStepIf fell).dacWf := by
  unfold Apu.frameStepIf
  split
  · exact h.frameStep
  · exact h

theorem timerCount (h : a.dacWf) (ds : Bool) (n : Nat) (t : Timer) : (Machine.timerCount ds n (t, a)).2.dacWf := by
  induction n generalizing t a with
  | zero => exact h
  | succ n ih => exact ih (h.frameStepIf _) _

/-! ### T-cycles (R485 to R487, R491) -/

theorem dot (h : a.dacWf) (cfg : Params) : (Apu.dot cfg a).dacWf := by
  have hgenerators : a.generatorDot.dacWf := by
    unfold Apu.generatorDot
    split
    · exact h
    · exact h
  unfold Apu.dot Apu.sampleDot
  split_ifs
  · exact hgenerators
  · exact hgenerators
  · exact hgenerators

theorem apuRun (h : a.dacWf) (cfg : Params) (n : Nat) : (Machine.apuRun cfg n a).dacWf := by
  induction n generalizing a with
  | zero => exact h
  | succ n ih => exact ih (h.dot cfg)

/-! ### Register writes -/

/-- A trigger turns its channel on only with its DAC on (R489). -/
theorem trigger1 : a.dacWf → a.trigger1.dacWf := fun ⟨_, h2, h3, h4⟩ =>
  ⟨fun hon => (Bool.and_eq_true_iff.1 hon).1, h2, h3, h4⟩

theorem trigger2 : a.dacWf → a.trigger2.dacWf := fun ⟨h1, _, h3, h4⟩ => ⟨h1, id, h3, h4⟩

theorem trigger3 (cfg : Params) (seed : Nat) : a.dacWf → (Apu.trigger3 cfg seed a).dacWf := fun ⟨h1, h2, _, h4⟩ => ⟨h1, h2, id, h4⟩

theorem trigger4 : a.dacWf → a.trigger4.dacWf := fun ⟨h1, h2, h3, _⟩ => ⟨h1, h2, h3, id⟩

theorem powerOff (a : Apu) : a.powerOff.dacWf := ⟨nofun, nofun, nofun, nofun⟩

theorem powerOn (a : Apu) : a.powerOn.dacWf := ⟨nofun, nofun, nofun, nofun⟩

theorem writeNr52 (h : a.dacWf) (v : Byte) : (a.writeNr52 v).dacWf := by
  unfold Apu.writeNr52
  split_ifs
  · exact h
  · exact powerOn a
  · exact powerOff a
  · exact h

/-- NRx2 and NR30 turn a channel off with its DAC (R488), NRx4 turns it on by a trigger alone, and the other registers touch neither. -/
theorem writeRegister (h : a.dacWf) (cfg : Params) (seed r : Nat) (v : Byte) : (Apu.writeRegister cfg seed a r v).dacWf := by
  have hgated {on dac : Bool} (hon : (on && dac) = true) : dac = true := (Bool.and_eq_true_iff.1 hon).2
  have ⟨h1, h2, h3, h4⟩ := h
  unfold Apu.writeRegister
  split
  case h_3 => exact ⟨hgated, h2, h3, h4⟩ -- NR12
  case h_5 => -- NR14
    split
    · exact trigger1 (a := { a with nr14 := v &&& 0x47 }) h
    · exact h
  case h_7 => exact ⟨h1, hgated, h3, h4⟩ -- NR22
  case h_9 => -- NR24
    split
    · exact trigger2 (a := { a with nr24 := v &&& 0x47 }) h
    · exact h
  case h_10 => -- NR30
    refine ⟨h1, h2, fun hon => ?_, h4⟩
    show (v &&& 0x80).getLsbD 7 = true
    rw [BitVec.getLsbD_and, hgated hon]
    rfl
  case h_14 => -- NR34
    split
    · exact trigger3 (a := { a with nr34 := v &&& 0x47 }) cfg seed h
    · exact h
  case h_16 => exact ⟨h1, h2, h3, hgated⟩ -- NR42
  case h_18 => -- NR44
    split
    · exact trigger4 (a := { a with nr44 := v &&& 0x40 }) h
    · exact h
  all_goals exact h

theorem write (h : a.dacWf) (cfg : Params) (seed : Nat) (addr : Word) (v : Byte) : (Apu.write cfg seed a addr v).dacWf := by
  unfold Apu.write
  split_ifs
  · exact h.writeRegister cfg seed _ v
  · exact h
  · exact h.writeNr52 v
  · exact h
  · exact h

end Apu.dacWf

theorem State.tick_apu (s : State) :
    s.tick.apu = (timerCount s.bus.doubleSpeed 4 (s.timer.advancePhase, apuRun s.cfg s.normalT s.apu)).2 := rfl

theorem State.resetDiv_dacWf {s : State} (h : s.apu.dacWf) : s.resetDiv.apu.dacWf := h.frameStepIf _

/-- A write reaches the APU by its own registers, and by DIV. -/
theorem State.writeByte_apu (s : State) (a : Word) (v : Byte) :
    (s.writeByte a v).apu = s.apu ∨ (s.writeByte a v).apu = Apu.write s.cfg s.seed s.apu a v ∨
      (s.writeByte a v).apu = s.resetDiv.apu := by
  unfold State.writeByte State.writeRouted State.writeIo State.ifCgb
  repeat' split
  any_goals exact .inl rfl
  · exact .inr (.inl rfl)
  · exact .inr (.inr rfl)

/-- A channel is on only while its DAC is (61_video_audio.md R488). -/
theorem kept_dacWf : Kept fun s => s.apu.dacWf where
  tick s h := by
    rw [State.tick_apu]
    exact (h.apuRun _ _).timerCount _ _ _
  write s a v _ h := by
    obtain hsame | hregister | hdiv := s.writeByte_apu a v
    · rw [hsame]; exact h
    · rw [hregister]; exact h.write _ _ a v
    · rw [hdiv]; exact State.resetDiv_dacWf h
  cpu _ _ _ h := h
  acknowledge _ _ h := h
  speed _ h := State.resetDiv_dacWf h

end Sys2Proof.Machine
end

section
/-! SUPPORT. The PPU's interrupts and registers (61_video_audio.md R461, R468, R469, R472). -/

namespace Sys2Proof.Machine

/-- A line after the last visible one begins with VBlank and its request (R461, R468). -/
theorem enterLine_of_vBlank {r : PpuIrq} (h : r.1.line = 144) : enterLine r = enterVBlank r := by
  rw [enterLine, if_neg (by omega), if_pos h]

theorem ppuDot_of_lineEnd (cfg : Params) (mem : Memory) {r : PpuIrq} (hon : r.1.lcdOn = true) (hclock : r.1.clock = 455) :
    ppuDot cfg mem r = beginNextLine r := by
  rw [ppuDot, hon, if_neg (by decide), if_pos (by omega)]

/-- VBlank begins after the last visible line, and requests its interrupt (R461, R468). -/
theorem beginNextLine_vBlank {r : PpuIrq} (hline : r.1.line = 143) :
    (beginNextLine r).1.mode = .vBlank ∧ (beginNextLine r).1.line = 144 ∧ (beginNextLine r).1.clock = 0 ∧
      (beginNextLine r).1.frames = r.1.frames + 1 ∧ (beginNextLine r).2.iflag.getLsbD 0 = true := by
  have hnext : nextLine r.1.line = 144 := by rw [hline]; rfl
  rw [beginNextLine, enterLine_of_vBlank (show nextLine r.1.line = 144 from hnext)]
  refine ⟨rfl, hnext, rfl, rfl, ?_⟩
  show (((r.2.request .vBlank).requestIf _ .lcdStat).requestIf _ .lcdStat).iflag.getLsbD 0 = true
  rw [Irq.requestIf_iflag_other _ _ (by decide), Irq.requestIf_iflag_other _ _ (by decide), Irq.request_iflag]
  exact Bool.or_true _

/-- A read of an I/O register below the palette data goes to `readIo`. -/
theorem State.readByte_io (s : State) {a : Word} (h1 : 0xFF00 ≤ a) (h2 : a < 0xFF68) : s.readByte a = s.readIo a := by
  have hunusable : ¬ a < 0xFEA0 := by bv_omega
  have hlow : ¬ a < 0xFF00 := by bv_omega
  have hio : a < 0xFF80 := by bv_omega
  rw [State.readByte_of_unlocked (s.locked_io h1 h2), State.readRouted, s.key_io h1 hio]
  simp only [hunusable, hlow, hio, if_true, if_false]

theorem State.readByte_stat (s : State) : s.readByte 0xFF41 = s.ppu.readStat := by
  rw [s.readByte_io (by decide) (by decide), State.readIo, if_neg (by decide), show cgbUnmodelled 0xFF41 = false from rfl,
    Bool.and_false]
  rfl

theorem State.readByte_ly (s : State) : s.readByte 0xFF44 = s.ppu.ly := by
  rw [s.readByte_io (by decide) (by decide), State.readIo, if_neg (by decide), show cgbUnmodelled 0xFF44 = false from rfl,
    Bool.and_false]
  rfl

theorem State.writeByte_lcdc (s : State) (v : Byte) : s.writeByte 0xFF40 v = s.writeLcdc v :=
  s.writeByte_io (by decide) (by decide) v

theorem State.writeByte_stat (s : State) (v : Byte) : s.writeByte 0xFF41 v = { s with ppu := s.ppu.writeStat v } :=
  s.writeByte_io (by decide) (by decide) v

theorem State.writeByte_lyc (s : State) (v : Byte) : s.writeByte 0xFF45 v = { s with ppu := s.ppu.writeLyc v } :=
  s.writeByte_io (by decide) (by decide) v

/-- STAT's mode bits read 0 with the LCD off (R472). -/
theorem Ppu.readStat_mode_of_off {p : Ppu} (h : p.lcdOn = false) : p.readStat.setWidth 2 = 0 := by
  rw [Ppu.readStat, h]
  exact BitVec.setWidth_append_eq_right

end Sys2Proof.Machine
end

section
/-! The obligations about video and audio (61_video_audio.md). -/

namespace Sys2Proof.Machine

/-- Settles O42: a T-cycle moves the mode with the clock, and the LCD's switches leave line 0 in the mode of its start. -/
theorem ppuModeFollowsPosition : Obligations.PpuModeFollowsPosition := by
  unfold Obligations.PpuModeFollowsPosition
  exact fun s t h e => kept_positionWf.step h t e

/-- Settles O43: a channel is turned on by a trigger alone, with its DAC on, and a DAC's register turns its channel off with it. -/
theorem channelsNeedDacs : Obligations.ChannelsNeedDacs := by
  unfold Obligations.ChannelsNeedDacs
  exact fun s t h e => kept_dacWf.step h t e

/-- Settles O60: VBlank by the line's end, the LCD's switch by what its write does, and STAT's and LYC's writes change the PPU alone. -/
theorem ppuEvents : Obligations.PpuEvents := by
  unfold Obligations.PpuEvents
  refine ⟨fun cfg mem p q hon hline hclock => ?vBlank, fun s v hon hv => ?lcdOff, fun s v => ?registers⟩
  case vBlank =>
    rw [ppuDot_of_lineEnd cfg mem (r := (p, q)) hon hclock]
    exact beginNextLine_vBlank hline
  case lcdOff =>
    have hwrite : s.writeByte 0xFF40 v = { s with ppu := (lcdOff ({ s.ppu with lcdc := v }, s.irq)).1 } := by
      rw [State.writeByte_lcdc, State.writeLcdc, writeLcdc_off (r := (s.ppu, s.irq)) hon hv]
      rfl
    rw [hwrite]
    intro t
    rw [State.readByte_ly, State.readByte_stat]
    exact ⟨rfl, rfl, rfl, Ppu.readStat_mode_of_off (p := t.ppu) hv, rfl⟩
  case registers =>
    rw [State.writeByte_stat, State.writeByte_lyc]
    exact ⟨rfl, rfl, rfl⟩

end Sys2Proof.Machine
end

section
/-! SUPPORT. Instructions that store nothing (70_reset_and_hazards.md R580, R581): device ticks and changes of the CPU's own registers, the
ticks counted M-cycle by M-cycle. -/

namespace Sys2Proof.Machine

/-- From `s` to `t` there are `n` device ticks and changes of the CPU's own registers. -/
def Ticked (s : State) (n : Nat) (t : State) : Prop := ∃ c, t = (s.ticks n).withCpu c

/-- Where an instruction that stores nothing ends: but for the CPU's own registers, one to five device ticks later. -/
def OnlyTicked (s t : State) : Prop := ∃ n, 1 ≤ n ∧ n ≤ 5 ∧ t = (s.ticks n).withCpu t.cpu

namespace Ticked

variable {s t : State} {n : Nat}

theorem refl (s : State) : Ticked s 0 s := ⟨s.cpu, rfl⟩

theorem tick (h : Ticked s n t) : Ticked s (n + 1) t.tick := by
  obtain ⟨c, rfl⟩ := h
  exact ⟨c, by rw [State.tick_withCpu, State.ticks_tick]⟩

/-- One change of the CPU's registers, or several. -/
theorem cpu (h : Ticked s n t) (c : Cpu) : Ticked s n (t.withCpu c) := by
  obtain ⟨_, rfl⟩ := h
  exact ⟨c, rfl⟩

theorem setPair (h : Ticked s n t) (rr : R16) (v : Word) : Ticked s n (t.setPair rr v) := by
  cases rr with
  | sp => exact h.cpu _
  | bc | de | hl => exact (h.cpu _).cpu _

theorem setStkPair (h : Ticked s n t) (rr : R16Stk) (v : Word) : Ticked s n (t.setStkPair rr v) := by
  cases rr with
  | bc | de | hl | af => exact (h.cpu _).cpu _

/-- The last M-cycle's tick is at most the fifth. -/
theorem finish (h : Ticked s n t) (hn : n < 5 := by decide) : IfNext (finish t) (OnlyTicked s) := by
  refine ifNext_next.2 ⟨n + 1, by omega, hn, ?_⟩
  obtain ⟨c, hc⟩ := h.tick
  rw [hc]
  rfl

theorem readNext (h : Ticked s n t) {a : Word} {k : Byte → State → Result}
    (hk : ∀ v u, Ticked s (n + 1) u → IfNext (k v u) (OnlyTicked s)) : IfNext (t.readNext a k) (OnlyTicked s) :=
  ifNext_readNext (hk _ _ h.tick)

theorem hlOperand (h : Ticked s n t) {k : Byte → State → Result}
    (hk : ∀ v u, Ticked s (n + 1) u → IfNext (k v u) (OnlyTicked s)) : IfNext (t.hlOperand k) (OnlyTicked s) :=
  ifNext_reading (h.readNext hk)

theorem popWord (h : Ticked s n t) {k : Word → State → Result}
    (hk : ∀ v u, Ticked s (n + 2) u → IfNext (k v u) (OnlyTicked s)) : IfNext (t.popWord k) (OnlyTicked s) :=
  ifNext_reading (h.readNext fun _ _ h1 => (h1.cpu _).readNext fun _ _ h2 => hk _ _ (h2.cpu _))

/-- A return pops pc in two M-cycles and ends after an internal one. -/
theorem ret (h : Ticked s n t) (hn : n + 3 < 5 := by decide) : IfNext (ret t) (OnlyTicked s) :=
  h.popWord fun _ _ h1 => (h1.tick.cpu _).finish hn

theorem returnFromInterrupt (h : Ticked s n t) (hn : n + 3 < 5 := by decide) : IfNext t.returnFromInterrupt (OnlyTicked s) := by
  unfold State.returnFromInterrupt
  exact h.popWord fun _ _ h1 => (h1.tick.cpu _).finish hn

end Ticked

/-- A form that stores nothing ends one to five ticks later: one for each M-cycle from its last fetch on. STOP, which resets the counter, and the
byte 0xCB alone, which is no instruction, are apart. -/
theorem form_onlyTicked {f : Form} (hstop : ∀ n, f ≠ .stop n) (hcb : f ≠ .cbPage) {s : State} (hstores : f.stores s = []) :
    IfNext (f.run s) (OnlyTicked s) := by
  have h : Ticked s 0 s := .refl s
  unfold Form.run
  cases f with
  -- a store
  | ldMemReg | ldMemImm | ldPtrA | ldAbsA | ldhCA | ldhImmA | ldHlIncA | ldHlDecA | ldAbsSp | push | incMem | decMem | rotMem | resMem
  | setMem | call | rst =>
    exact absurd hstores (List.cons_ne_nil _ _)
  -- one M-cycle
  | nop => exact h.finish
  | ldRegImm | scf | di => exact (h.cpu _).finish
  | ldRegReg | ccf | bitReg | resReg | setReg | jpHl => exact ifNext_reading (h.cpu _).finish
  | aluReg | aluImm | incReg | decReg | daa | cpl | rotA | rotReg => exact ifNext_reading ((h.cpu _).cpu _).finish
  | ldPairImm rr nn => exact (h.setPair rr nn).finish
  | halt => exact ifNext_ite (h.cpu _).finish (ifNext_ite (ifNext_ite (h.cpu _).finish h.finish) (h.cpu _).finish)
  | ei =>
    refine Ticked.finish (n := 0) ?_
    split
    · exact h.cpu _
    · exact h
  -- an internal M-cycle or two before the last
  | ldSpHl => exact ifNext_reading (h.tick.cpu _).finish
  | jp | jr => exact (h.tick.cpu _).finish
  | jpCc | jrCc => exact ifNext_ifCond (h.tick.cpu _).finish h.finish
  | incPair rr | decPair rr => exact ifNext_reading (h.tick.setPair rr _).finish
  | addHl | ldHlSp => exact ifNext_reading ((h.tick.setPair .hl _).cpu _).finish
  | addSp => exact ifNext_reading ((h.tick.tick.cpu _).cpu _).finish
  -- a read
  | ldAAbs | ldhAImm => exact h.readNext fun _ _ h1 => (h1.cpu _).finish
  | ldAPtr | ldhAC => exact ifNext_reading (h.readNext fun _ _ h1 => (h1.cpu _).finish)
  | ldRegMem | bitMem => exact h.hlOperand fun _ _ h1 => (h1.cpu _).finish
  | ldAHlInc | ldAHlDec => exact h.hlOperand fun _ _ h1 => ((h1.cpu _).setPair .hl _).finish
  | aluMem => exact h.hlOperand fun _ _ h1 => ifNext_reading ((h1.cpu _).cpu _).finish
  -- the stack
  | pop rr => exact h.popWord fun v _ h1 => (h1.setStkPair rr v).finish
  | ret => exact h.ret
  | retCc => exact ifNext_ifCond h.tick.ret h.tick.finish
  | reti => exact h.returnFromInterrupt
  | callCc cc nn =>
    refine ifNext_reading ?_
    rw [stores_callCc] at hstores
    split_ifs at hstores with hcond
    rw [if_neg hcond]
    exact h.finish
  -- no next state, and the two apart
  | illegal => exact ifNext_fault _
  | stop n => exact absurd rfl (hstop n)
  | cbPage => exact absurd rfl hcb

end Sys2Proof.Machine
end

section
/-! SUPPORT. What a device tick leaves of the interrupt controller, the PPU, the timer and the APU (70_reset_and_hazards.md R581). -/

namespace Sys2Proof.Machine

/-! ### Requests are added to IF (60_exceptions.md R361) -/

/-- From `q` to `q'` only requests are made: IE stays, and so does every bit set in IF. -/
structure Requested (q q' : Irq) : Prop where
  ie : q'.ie = q.ie
  iflag : ∀ n, q.iflag.getLsbD n = true → q'.iflag.getLsbD n = true

namespace Requested

variable {q q' q'' : Irq}

theorem refl (q : Irq) : Requested q q := ⟨rfl, fun _ h => h⟩

theorem trans (h : Requested q q') (h' : Requested q' q'') : Requested q q'' :=
  ⟨h'.ie.trans h.ie, fun n hn => h'.iflag n (h.iflag n hn)⟩

theorem request (h : Requested q q') (i : Interrupt) : Requested q (q'.request i) :=
  ⟨h.ie, fun n hn => by rw [Irq.request_iflag, h.iflag n hn, Bool.true_or]⟩

theorem requestIf (h : Requested q q') (c : Bool) (i : Interrupt) : Requested q (q'.requestIf c i) := by
  cases c with
  | false => exact h
  | true => exact h.request i

/-- The bits set in IF before are among those set after. -/
theorem iflag_and (h : Requested q q') : q'.iflag &&& q.iflag = q.iflag := by
  refine BitVec.eq_of_getLsbD_eq fun n _ => ?_
  rw [BitVec.getLsbD_and, Bool.and_eq_right_iff_imp]
  exact h.iflag n

end Requested

theorem serialTick_requested (cfg : Params) (t : Nat) (r : Serial × Irq) : Requested r.2 (serialTick cfg t r).2 := by
  unfold serialTick
  repeat' split
  · exact .refl _
  · exact (Requested.refl _).request .serial
  · exact .refl _

/-! ### The PPU (61_video_audio.md R461 to R474) -/

/-- The PPU's registers the CPU alone writes (10_state.md R43 to R46). -/
structure PpuRegisters where
  lcdc : Byte
  scy : Byte
  scx : Byte
  lyc : Byte
  wy : Byte
  wx : Byte
  bgp : Byte
  obp0 : Byte
  obp1 : Byte
  bgPalette : Vector Byte 64
  objPalette : Vector Byte 64

/-- Those registers of a PPU. -/
def Ppu.registers (p : Ppu) : PpuRegisters :=
  { lcdc := p.lcdc, scy := p.scy, scx := p.scx, lyc := p.lyc, wy := p.wy, wx := p.wx, bgp := p.bgp, obp0 := p.obp0, obp1 := p.obp1,
    bgPalette := p.bgPalette, objPalette := p.objPalette }

/-- What T-cycles of the PPU leave: its registers, IE and the bits set in IF. -/
structure PpuFrame (r r' : PpuIrq) : Prop where
  registers : r'.1.registers = r.1.registers
  requested : Requested r.2 r'.2

theorem PpuFrame.refl (r : PpuIrq) : PpuFrame r r := ⟨rfl, .refl _⟩

theorem PpuFrame.trans {r r' r'' : PpuIrq} (h : PpuFrame r r') (h' : PpuFrame r' r'') : PpuFrame r r'' :=
  ⟨h'.registers.trans h.registers, h.requested.trans h'.requested⟩

theorem enterLine_ppuFrame (r : PpuIrq) : PpuFrame r (enterLine r) := by
  unfold enterLine
  split_ifs
  · exact ⟨rfl, (Requested.refl _).requestIf _ _⟩
  · exact ⟨rfl, ((Requested.refl _).request _).requestIf _ _⟩
  · exact .refl r

theorem checkCoincidence_ppuFrame (r : PpuIrq) : PpuFrame r (checkCoincidence r) := ⟨rfl, (Requested.refl _).requestIf _ _⟩

theorem beginNextLine_ppuFrame (r : PpuIrq) : PpuFrame r (beginNextLine r) := by
  refine PpuFrame.trans ?_ (checkCoincidence_ppuFrame _)
  refine PpuFrame.trans ?_ (enterLine_ppuFrame _)
  exact ⟨rfl, .refl _⟩

theorem drawDot_registers (cfg : Params) (mem : Memory) (p : Ppu) : (drawDot cfg mem p).registers = p.registers := by
  unfold drawDot
  simp only
  split <;> rfl

theorem visibleDot_ppuFrame (cfg : Params) (mem : Memory) (r : PpuIrq) : PpuFrame r (visibleDot cfg mem r) := by
  have hentered : PpuFrame r (if r.1.clock = 80 then enterDrawLine cfg mem r else r) := by
    split
    · exact ⟨rfl, .refl _⟩
    · exact .refl r
  unfold visibleDot
  generalize (if r.1.clock = 80 then enterDrawLine cfg mem r else r) = entered at hentered
  simp only
  split_ifs
  · exact .refl r
  · exact hentered.trans ⟨drawDot_registers cfg mem entered.1, .refl _⟩
  · exact hentered.trans ⟨rfl, (Requested.refl _).requestIf _ _⟩
  · exact hentered

theorem ppuDot_ppuFrame (cfg : Params) (mem : Memory) (r : PpuIrq) : PpuFrame r (ppuDot cfg mem r) := by
  have hclock : PpuFrame r ({ r.1 with clock := r.1.clock + 1 }, r.2) := ⟨rfl, .refl _⟩
  unfold ppuDot
  simp only
  split_ifs
  · exact .refl r
  · exact beginNextLine_ppuFrame r
  · exact hclock.trans (visibleDot_ppuFrame cfg mem _)
  · exact hclock

theorem ppuRun_ppuFrame (cfg : Params) (mem : Memory) (n : Nat) (r : PpuIrq) : PpuFrame r (ppuRun cfg mem n r) := by
  induction n generalizing r with
  | zero => exact .refl r
  | succ n ih => exact (ppuDot_ppuFrame cfg mem r).trans (ih _)

/-! ### The APU (61_video_audio.md R480 to R491) -/

/-- The APU's registers the CPU alone writes, of those `Obligations.TickFrame` names (10_state.md R50 to R52). -/
structure ApuRegisters where
  power : Bool
  nr50 : Byte
  nr51 : Byte
  waveRam : Vector Byte 16

/-- Those registers of an APU. -/
def Apu.registers (a : Apu) : ApuRegisters := { power := a.power, nr50 := a.nr50, nr51 := a.nr51, waveRam := a.waveRam }

theorem Apu.sweepRecompute_registers (a : Apu) : a.sweepRecompute.registers = a.registers := by
  unfold Apu.sweepRecompute
  simp only
  split_ifs <;> rfl

theorem Apu.tickSweep_registers (a : Apu) : a.tickSweep.registers = a.registers := by
  unfold Apu.tickSweep
  split
  · exact Apu.sweepRecompute_registers _
  · rfl

/-- The frame sequencer writes lengths, the sweep with channel 1's wavelength, and envelopes (R481 to R484). -/
theorem Apu.frameStep_registers (a : Apu) : a.frameStep.registers = a.registers := by
  have hlengths : (if a.fsStep.getLsbD 0 then a else a.tickLengths).registers = a.registers := by
    split <;> rfl
  unfold Apu.frameStep
  generalize (if a.fsStep.getLsbD 0 then a else a.tickLengths) = afterLengths at hlengths
  simp only
  split_ifs
  · rfl
  · exact (Apu.tickSweep_registers _).trans hlengths
  · exact hlengths
  · exact (Apu.tickSweep_registers _).trans hlengths
  · exact hlengths

theorem Apu.frameStepIf_registers (a : Apu) (fell : Bool) : (a.frameStepIf fell).registers = a.registers := by
  cases fell with
  | false => rfl
  | true => exact a.frameStep_registers

theorem timerCount_registers (ds : Bool) (n : Nat) (r : Timer × Apu) : (timerCount ds n r).2.registers = r.2.registers := by
  induction n generalizing r with
  | zero => rfl
  | succ n ih => exact (ih _).trans (r.2.frameStepIf_registers _)

theorem Apu.generatorDot_registers (a : Apu) : a.generatorDot.registers = a.registers := by
  unfold Apu.generatorDot
  split <;> rfl

theorem Apu.dot_registers (cfg : Params) (a : Apu) : (Apu.dot cfg a).registers = a.registers := by
  rw [← a.generatorDot_registers]
  unfold Apu.dot Apu.sampleDot
  split_ifs <;> rfl

theorem apuRun_registers (cfg : Params) (n : Nat) (a : Apu) : (apuRun cfg n a).registers = a.registers := by
  induction n generalizing a with
  | zero => rfl
  | succ n ih => exact (ih _).trans (a.dot_registers cfg)

/-! ### The timer (60_exceptions.md R381 to R386) -/

theorem Timer.advancePhase_tma (t : Timer) : t.advancePhase.tma = t.tma := by
  unfold Timer.advancePhase
  split <;> rfl

theorem Timer.incrementIf_tma (t : Timer) (fell : Bool) : (t.incrementIf fell).tma = t.tma := by
  unfold Timer.incrementIf Timer.increment
  split_ifs <;> rfl

/-! ### The tick -/

theorem State.tick_timer_tma (s : State) : s.tick.timer.tma = s.timer.tma := by
  rw [s.tick_timer, Timer.incrementIf_tma]
  exact s.timer.advancePhase_tma

theorem State.tick_timer_tac (s : State) : s.tick.timer.tac = s.timer.tac := by
  rw [s.tick_timer, Timer.incrementIf_tac]
  exact s.timer.advancePhase_tac

theorem State.tick_requested (s : State) : Requested s.irq s.tick.irq := by
  rw [State.tick_irq]
  exact (((ppuRun_ppuFrame _ _ _ (s.ppu, s.irq)).requested.requestIf _ _).trans (serialTick_requested _ _ (s.serial, _))).requestIf _ _

theorem State.tick_ppu_registers (s : State) : s.tick.ppu.registers = s.ppu.registers := (ppuRun_ppuFrame _ _ _ (s.ppu, s.irq)).registers

theorem State.tick_apu_registers (s : State) : s.tick.apu.registers = s.apu.registers :=
  (timerCount_registers _ _ (_, apuRun s.cfg s.normalT s.apu)).trans (apuRun_registers _ _ _)

/-- A tick writes no cell but OAM's (20_memory.md R96). -/
theorem State.tick_mem_read (s : State) {k : Nat} (hk : ¬ isOamKey k) : s.tick.mem.read k = s.mem.read k :=
  s.dmaMem_read_of_oam fun hoam => absurd hoam hk

end Sys2Proof.Machine
end

section
/-! The obligations about the order of devices and CPU (70_reset_and_hazards.md). -/

namespace Sys2Proof.Machine

/-- Settles O38: such an instruction's M-cycles are reads and internal ones, each a device tick, and a tick does not see the CPU's registers. -/
theorem frameDevices : Obligations.FrameDevices := by
  unfold Obligations.FrameDevices
  intro i s t hi hstores hstop e
  rw [exec_form] at e
  exact form_onlyTicked hstop (form_ne_cbPage hi) hstores t e

/-- Settles O39, device by device. -/
theorem tickFrame : Obligations.TickFrame := by
  unfold Obligations.TickFrame
  intro s
  rw [← s.tick_eq_ticks]
  obtain ⟨hlcdc, hscy, hscx, hlyc, hwy, hwx, hbgp, hobp0, hobp1, hbgPalette, hobjPalette⟩ := PpuRegisters.mk.inj s.tick_ppu_registers
  obtain ⟨hpower, hnr50, hnr51, hwaveRam⟩ := ApuRegisters.mk.inj s.tick_apu_registers
  exact ⟨s.tick_cpu, s.tick_cfg, s.tick_bus, s.tick_dmaReg, s.tick_requested.ie, s.tick_requested.iflag_and,
    s.tick_timer_tma, s.tick_timer_tac, s.tick_timer_div, s.tick_pressed, s.tick_select,
    hlcdc, hscy, hscx, hlyc, hwy, hwx, hbgp, hobp0, hobp1, hbgPalette, hobjPalette,
    hpower, hnr50, hnr51, hwaveRam, fun k hk => s.tick_mem_read hk⟩

end Sys2Proof.Machine
end
